-- ==== Sys2Proof/Word.lean ====
section
/-! DEFINITION. The words of the block: the byte, the frame, the command, response and edge-key words, the bit
position, and the three selector formats of spec/opcode_table.json (CMD12, EDGEKEY7, SEQ3). -/

namespace Sys2Proof

/-- A byte moved across the wire, unsigned (R9, R15). -/
abbrev Byte := BitVec 8

/-- The 11 bits of one frame, frame position i being bit i (R23, R80). -/
abbrev Frame := BitVec 11

/-- The host command word: op in bits 11:8, arg in bits 7:0 (R85). -/
abbrev CmdWord := BitVec 12

/-- The response word: status in bits 12:9, value in bits 8:0 (R88). -/
abbrev RspWord := BitVec 13

/-- The edge dispatch key: PHASE in bits 6:4, POS in bits 3:0 (R90). -/
abbrev EdgeKey := BitVec 7

/-- A bit position of a frame, 0 to 10: the values 11 to 15 are not representable (R26, R29, R48). -/
abbrev Pos := Fin 11

/-- What selects one operation, in the three formats of the opcode table: a host command word (R85); an edge
dispatch key together with the level `v` the device holds on DATA (R90, R100); the value of SEQ together with the
three conditions on state that the sequencer rows name, HOLDCNT = 0, TXDONE = 1 and WDCNT = 0 (R161 to R165). -/
inductive OpWord where
  | cmd12 (w : CmdWord)
  | edge (key : EdgeKey) (v : Bool)
  | seq3 (q : BitVec 3) (holdZero txDone wdZero : Bool)
  deriving DecidableEq, Repr

end Sys2Proof
end

