-- ==== Sys2Proof/Config.lean ====
section
/-! DEFINITION. The parameters of the block (R5, R6), the widths that follow from them, and the free values of the
buffer slots that nothing has written since power-on (R32, U4). -/

namespace Sys2Proof

/-- The OPEN parameters of R5. They are plain data that the state carries and no step changes, so that a statement
about every state is a statement about every parameter value (U3). DESIGN CHOICE, log entry 1. -/
structure Params where
  /-- BUF_SLOTS, the number of physical slots of the ring buffer and the modulus of its index arithmetic. -/
  bufSlots : Nat
  /-- HOLD_TICKS, the length of the clock-low hold of a request-to-send. -/
  holdTicks : Nat
  /-- WATCHDOG_TICKS, the watchdog duration of one WRITE. -/
  watchdogTicks : Nat
  /-- RESET_HOLD_TICKS, how long RESET holds both lines low. -/
  resetHoldTicks : Nat
  deriving DecidableEq, Repr

/-- The ranges that R5 and R6 allow the OPEN parameters. -/
abbrev Params.Ok (p : Params) : Prop :=
  2 ≤ p.bufSlots ∧ p.bufSlots ≤ 512 ∧ 100 ≤ p.holdTicks ∧ p.holdTicks < p.watchdogTicks ∧ 1 ≤ p.resetHoldTicks

/-- CAPACITY = BUF_SLOTS - 1, the largest number of bytes the buffer holds (R5, R140). -/
def Params.capacity (p : Params) : Nat := p.bufSlots - 1

/-- Bits enough to write every number up to `n`. -/
def bitsFor (n : Nat) : Nat := Nat.log2 n + 1

/-- IDXW = ceil(log2(BUF_SLOTS)), the width of HEAD and TAIL (R5): the bits of the largest index. -/
def Params.idxWidth (p : Params) : Nat := bitsFor (p.bufSlots - 1)

/-- TMRW, the width of HOLDCNT and WDCNT: bits enough for the largest of the three tick counts (R5). -/
def Params.timerWidth (p : Params) : Nat := bitsFor (max p.holdTicks (max p.watchdogTicks p.resetHoldTicks))

/-- The default of BUF_SLOTS and HOLD_TICKS and the test values of WATCHDOG_TICKS and RESET_HOLD_TICKS (R5). The last
two are no property of the hardware. DESIGN CHOICE, log entry 1. -/
def Params.default : Params :=
  { bufSlots := 16, holdTicks := 100, watchdogTicks := 2000, resetHoldTicks := 100 }

/-- The byte in slot `i` that nothing has written since power-on number `epoch`: any value (U4), log entry 2. -/
opaque Config.freeByte (epoch i : Nat) : Byte

/-- The parity-error flag of slot `i` that nothing has written since power-on number `epoch`: any value (U4), log
entry 2. -/
opaque Config.freeFlag (epoch i : Nat) : Bool

end Sys2Proof
end

