-- ==== Sys2Proof/Syntax.lean ====
section
/-! DEFINITION. The operations of the block: one constructor for each of the 44 rows of spec/opcode_table.json. -/

namespace Sys2Proof

/-- One operation of the block. The host commands carry the argument byte of their command word, ignored bits too,
since every value of those is legal (R87, R91). The edge micro-operations have one constructor for each edge
dispatch key and carry `v`, the level the device holds on DATA at the edge (R100). The sequencer steps and TICK have
one for each row; TICK's row leaves its field SEQ[2:0] open. -/
inductive Instr where
  /-- BEGIN (R151): initialise the block and enable edge delivery. -/
  | hostBegin (arg : Byte)
  /-- AVAILABLE (R152): report how many bytes are stored. -/
  | hostAvailable (arg : Byte)
  /-- READ (R153): take the oldest byte. -/
  | hostRead (arg : Byte)
  /-- WRITE (R154): send the byte `arg` and wait for the outcome. -/
  | hostWrite (arg : Byte)
  /-- FLUSH (R155): clear buffered state; `tx` is selector bit 1, `rx` selector bit 0. -/
  | hostFlush (ignored : BitVec 6) (tx rx : Bool)
  /-- RESET (R156): send the device reset signal and re-initialise. -/
  | hostReset (arg : Byte)
  /-- SUSPEND (R157): inhibit the device. -/
  | hostSuspend (arg : Byte)
  /-- RESUME (R158): let the device go on. -/
  | hostResume (arg : Byte)
  /-- RTS (R159): start the host-to-device sequence for the byte in TXBYTE. -/
  | hostRts (arg : Byte)
  /-- RESERVED_9 (R160): reserved operation code 0x9. -/
  | reserved9 (arg : Byte)
  /-- RESERVED_A (R160): reserved operation code 0xA. -/
  | reservedA (arg : Byte)
  /-- RESERVED_B (R160): reserved operation code 0xB. -/
  | reservedB (arg : Byte)
  /-- RESERVED_C (R160): reserved operation code 0xC. -/
  | reservedC (arg : Byte)
  /-- RESERVED_D (R160): reserved operation code 0xD. -/
  | reservedD (arg : Byte)
  /-- RESERVED_E (R160): reserved operation code 0xE. -/
  | reservedE (arg : Byte)
  /-- RESERVED_F (R160): reserved operation code 0xF. -/
  | reservedF (arg : Byte)
  /-- RX_START (R104), key 0x00: sample the start bit. -/
  | rxStart (v : Bool)
  /-- RX_DATA (R105), key 0x11: sample data bit 0 into RXSHIFT[1]. -/
  | rxData1 (v : Bool)
  /-- RX_DATA (R105), key 0x12: sample data bit 1 into RXSHIFT[2]. -/
  | rxData2 (v : Bool)
  /-- RX_DATA (R105), key 0x13: sample data bit 2 into RXSHIFT[3]. -/
  | rxData3 (v : Bool)
  /-- RX_DATA (R105), key 0x14: sample data bit 3 into RXSHIFT[4]. -/
  | rxData4 (v : Bool)
  /-- RX_DATA (R105), key 0x15: sample data bit 4 into RXSHIFT[5]. -/
  | rxData5 (v : Bool)
  /-- RX_DATA (R105), key 0x16: sample data bit 5 into RXSHIFT[6]. -/
  | rxData6 (v : Bool)
  /-- RX_DATA (R105), key 0x17: sample data bit 6 into RXSHIFT[7]. -/
  | rxData7 (v : Bool)
  /-- RX_DATA (R105), key 0x18: sample data bit 7 into RXSHIFT[8]. -/
  | rxData8 (v : Bool)
  /-- RX_PARITY (R106), key 0x19: sample the parity bit and check it. -/
  | rxParity (v : Bool)
  /-- RX_STOP (R107), key 0x1A: sample the stop bit and finish the frame. -/
  | rxStop (v : Bool)
  /-- TX_DATA (R121), key 0x20: put TXBYTE[0] on DATA. -/
  | txData0 (v : Bool)
  /-- TX_DATA (R121), key 0x31: put TXBYTE[1] on DATA. -/
  | txData1 (v : Bool)
  /-- TX_DATA (R121), key 0x32: put TXBYTE[2] on DATA. -/
  | txData2 (v : Bool)
  /-- TX_DATA (R121), key 0x33: put TXBYTE[3] on DATA. -/
  | txData3 (v : Bool)
  /-- TX_DATA (R121), key 0x34: put TXBYTE[4] on DATA. -/
  | txData4 (v : Bool)
  /-- TX_DATA (R121), key 0x35: put TXBYTE[5] on DATA. -/
  | txData5 (v : Bool)
  /-- TX_DATA (R121), key 0x36: put TXBYTE[6] on DATA. -/
  | txData6 (v : Bool)
  /-- TX_DATA (R121), key 0x37: put TXBYTE[7] on DATA. -/
  | txData7 (v : Bool)
  /-- TX_PARITY (R122), key 0x38: put the odd-parity bit on DATA. -/
  | txParity (v : Bool)
  /-- TX_STOP (R123), key 0x39: release DATA. -/
  | txStop (v : Bool)
  /-- TX_ACK (R124), key 0x3A: check the acknowledgment and end the frame. -/
  | txAck (v : Bool)
  /-- HOLD_DONE (R161), SEQ = RTS_HOLD: end of the clock-low hold of an RTS command. -/
  | holdDoneRts
  /-- HOLD_DONE (R161), SEQ = WRITE_HOLD: end of the clock-low hold of a WRITE command. -/
  | holdDoneWrite
  /-- RESET_DONE (R162): end of the reset hold. -/
  | resetDone
  /-- WRITE_DONE (R163): the send frame of a WRITE has ended. -/
  | writeDone
  /-- WRITE_TIMEOUT (R164): the watchdog of a WRITE has expired. -/
  | writeTimeout
  /-- TICK (R165): one unit of time passes while SEQ holds the code `q`. -/
  | tick (q : BitVec 3)
  deriving DecidableEq, Repr

end Sys2Proof
end

