-- ==== Sys2Proof/WellFormed.lean ====
section
/-! DEFINITION. Which terms of Instr stand for an operation of the block. -/

namespace Sys2Proof

/-- SEQ holds one of the codes 0 to 4; 5 to 7 are reserved and never produced (R36, R48, R92). -/
def legalSeqCode (q : BitVec 3) : Bool := q.toNat ≤ 4

/-- Every operand of a command and of an edge is legal at every value (R87, R91); the one operand with reserved
values is the field SEQ[2:0] of TICK's row. -/
def Instr.wellFormed : Instr → Bool
  | .hostBegin _ => true
  | .hostAvailable _ => true
  | .hostRead _ => true
  | .hostWrite _ => true
  | .hostFlush _ _ _ => true
  | .hostReset _ => true
  | .hostSuspend _ => true
  | .hostResume _ => true
  | .hostRts _ => true
  | .reserved9 _ => true
  | .reservedA _ => true
  | .reservedB _ => true
  | .reservedC _ => true
  | .reservedD _ => true
  | .reservedE _ => true
  | .reservedF _ => true
  | .rxStart _ => true
  | .rxData1 _ => true
  | .rxData2 _ => true
  | .rxData3 _ => true
  | .rxData4 _ => true
  | .rxData5 _ => true
  | .rxData6 _ => true
  | .rxData7 _ => true
  | .rxData8 _ => true
  | .rxParity _ => true
  | .rxStop _ => true
  | .txData0 _ => true
  | .txData1 _ => true
  | .txData2 _ => true
  | .txData3 _ => true
  | .txData4 _ => true
  | .txData5 _ => true
  | .txData6 _ => true
  | .txData7 _ => true
  | .txParity _ => true
  | .txStop _ => true
  | .txAck _ => true
  | .holdDoneRts => true
  | .holdDoneWrite => true
  | .resetDone => true
  | .writeDone => true
  | .writeTimeout => true
  | .tick q => legalSeqCode q

end Sys2Proof
end

