-- ==== Sys2Proof/Decode.lean ====
section
/-! DEFINITION. The decoder, total on every selector and rejecting by name, and after it the encoder, both written
from spec/30_encoding.md (R85 to R90) and the tables of R161 to R165; then the opcode table's own numbering of words. -/

namespace Sys2Proof

/-- Why a selector names no operation. -/
inductive DecodeError where
  /-- An edge dispatch key that the table of R90 does not list; R46 makes it unreachable. -/
  | unreachableKey (key : EdgeKey)
  /-- A value 5 to 7 of SEQ, reserved (R92). -/
  | reservedSeq (q : BitVec 3)
  /-- An operation code above 15; four bits hold none. -/
  | noSuchOp
  deriving DecidableEq, Repr

/-- The field op of a command word (R85). -/
def CmdWord.op (w : CmdWord) : BitVec 4 := BitVec.extractLsb' 8 4 w

/-- The field arg of a command word (R85). -/
def CmdWord.arg (w : CmdWord) : Byte := BitVec.extractLsb' 0 8 w

/-- FLUSH with its argument taken apart: bit 0 selects the receive buffer, bit 1 the transmit register, bits 7:2
are ignored (R87). -/
def flushOf (arg : Byte) : Instr := .hostFlush (BitVec.extractLsb' 2 6 arg) (arg.getLsbD 1) (arg.getLsbD 0)

/-- Decoding a host command word by its operation code (R86); the reserved codes 0x9 to 0xF are operations of their
own, answered by R160. -/
def decodeCommand (w : CmdWord) : Except DecodeError Instr :=
  let a := CmdWord.arg w
  match (CmdWord.op w).toNat with
  | 0x0 => .ok (.hostBegin a)
  | 0x1 => .ok (.hostAvailable a)
  | 0x2 => .ok (.hostRead a)
  | 0x3 => .ok (.hostWrite a)
  | 0x4 => .ok (flushOf a)
  | 0x5 => .ok (.hostReset a)
  | 0x6 => .ok (.hostSuspend a)
  | 0x7 => .ok (.hostResume a)
  | 0x8 => .ok (.hostRts a)
  | 0x9 => .ok (.reserved9 a)
  | 0xA => .ok (.reservedA a)
  | 0xB => .ok (.reservedB a)
  | 0xC => .ok (.reservedC a)
  | 0xD => .ok (.reservedD a)
  | 0xE => .ok (.reservedE a)
  | 0xF => .ok (.reservedF a)
  | _ => .error .noSuchOp

/-- Selecting the engine micro-operation by the edge dispatch key (R90). Key 0x30, SENDING at position 0, is
unreachable and is handled as TX_DATA with p = 0 by the words of R121; every other key outside the table is rejected. -/
def decodeEdge (key : EdgeKey) (v : Bool) : Except DecodeError Instr :=
  match key.toNat with
  | 0x00 => .ok (.rxStart v)
  | 0x11 => .ok (.rxData1 v)
  | 0x12 => .ok (.rxData2 v)
  | 0x13 => .ok (.rxData3 v)
  | 0x14 => .ok (.rxData4 v)
  | 0x15 => .ok (.rxData5 v)
  | 0x16 => .ok (.rxData6 v)
  | 0x17 => .ok (.rxData7 v)
  | 0x18 => .ok (.rxData8 v)
  | 0x19 => .ok (.rxParity v)
  | 0x1A => .ok (.rxStop v)
  | 0x20 => .ok (.txData0 v)
  | 0x30 => .ok (.txData0 v)
  | 0x31 => .ok (.txData1 v)
  | 0x32 => .ok (.txData2 v)
  | 0x33 => .ok (.txData3 v)
  | 0x34 => .ok (.txData4 v)
  | 0x35 => .ok (.txData5 v)
  | 0x36 => .ok (.txData6 v)
  | 0x37 => .ok (.txData7 v)
  | 0x38 => .ok (.txParity v)
  | 0x39 => .ok (.txStop v)
  | 0x3A => .ok (.txAck v)
  | _ => .error (.unreachableKey key)

/-- Selecting the step of the sequencer and of time by SEQ and the conditions on state of R161 to R165: the urgent
step that is enabled, else TICK (R166). WRITE_DONE is tested before WRITE_TIMEOUT, so a completed frame wins (R163). -/
def decodeSeq (q : BitVec 3) (holdZero txDone wdZero : Bool) : Except DecodeError Instr :=
  match q.toNat with
  | 0 => .ok (.tick q)
  | 1 => .ok (if holdZero then .holdDoneRts else .tick q)
  | 2 => .ok (if holdZero then .holdDoneWrite else .tick q)
  | 3 => .ok (if txDone then .writeDone else if wdZero then .writeTimeout else .tick q)
  | 4 => .ok (if holdZero then .resetDone else .tick q)
  | _ => .error (.reservedSeq q)

/-- The decoder: the operation that a selector names, or the reason it names none. -/
def decode : OpWord → Except DecodeError Instr
  | .cmd12 w => decodeCommand w
  | .edge key v => decodeEdge key v
  | .seq3 q holdZero txDone wdZero => decodeSeq q holdZero txDone wdZero

/-- A command word from its two fields (R85). -/
def cmdWord (op : BitVec 4) (arg : Byte) : OpWord := .cmd12 (op ++ arg)

/-- The encoder: the selector of an operation, from the tables of R86, R87 and R90 and the rows of R161 to R165. A
sequencer row is written with exactly the conditions it needs. -/
def encode : Instr → OpWord
  | .hostBegin a => cmdWord 0x0#4 a
  | .hostAvailable a => cmdWord 0x1#4 a
  | .hostRead a => cmdWord 0x2#4 a
  | .hostWrite a => cmdWord 0x3#4 a
  | .hostFlush ignored tx rx => cmdWord 0x4#4 (ignored ++ BitVec.ofBool tx ++ BitVec.ofBool rx)
  | .hostReset a => cmdWord 0x5#4 a
  | .hostSuspend a => cmdWord 0x6#4 a
  | .hostResume a => cmdWord 0x7#4 a
  | .hostRts a => cmdWord 0x8#4 a
  | .reserved9 a => cmdWord 0x9#4 a
  | .reservedA a => cmdWord 0xA#4 a
  | .reservedB a => cmdWord 0xB#4 a
  | .reservedC a => cmdWord 0xC#4 a
  | .reservedD a => cmdWord 0xD#4 a
  | .reservedE a => cmdWord 0xE#4 a
  | .reservedF a => cmdWord 0xF#4 a
  | .rxStart v => .edge 0x00#7 v
  | .rxData1 v => .edge 0x11#7 v
  | .rxData2 v => .edge 0x12#7 v
  | .rxData3 v => .edge 0x13#7 v
  | .rxData4 v => .edge 0x14#7 v
  | .rxData5 v => .edge 0x15#7 v
  | .rxData6 v => .edge 0x16#7 v
  | .rxData7 v => .edge 0x17#7 v
  | .rxData8 v => .edge 0x18#7 v
  | .rxParity v => .edge 0x19#7 v
  | .rxStop v => .edge 0x1A#7 v
  | .txData0 v => .edge 0x20#7 v
  | .txData1 v => .edge 0x31#7 v
  | .txData2 v => .edge 0x32#7 v
  | .txData3 v => .edge 0x33#7 v
  | .txData4 v => .edge 0x34#7 v
  | .txData5 v => .edge 0x35#7 v
  | .txData6 v => .edge 0x36#7 v
  | .txData7 v => .edge 0x37#7 v
  | .txParity v => .edge 0x38#7 v
  | .txStop v => .edge 0x39#7 v
  | .txAck v => .edge 0x3A#7 v
  | .holdDoneRts => .seq3 1#3 true false false
  | .holdDoneWrite => .seq3 2#3 true false false
  | .resetDone => .seq3 4#3 true false false
  | .writeDone => .seq3 3#3 false true false
  | .writeTimeout => .seq3 3#3 false false true
  | .tick q => .seq3 q false false false

/-- The selector that a word of spec/opcode_table.json stands for, `nbits` being the row's width in whole bytes. A
word of more than one byte is a CMD12 command word. A word of one byte is an EDGEKEY7 key in bits 6:0 with the
operand `v` above it; the values 1 to 4, which are no edge key (IDLE is only at position 0), are the SEQ3 codes of
the urgent rows with their conditions met. Log entry 12. -/
def tableOpWord (nbits w : Nat) : Option OpWord :=
  if nbits ≤ 8 then
    if 1 ≤ w ∧ w ≤ 4 then some (.seq3 (BitVec.ofNat 3 w) true true true)
    else if w < 256 then some (.edge (BitVec.ofNat 7 w) (w.testBit 7))
    else none
  else if w < 4096 then some (.cmd12 (BitVec.ofNat 12 w))
  else none

/-- The instruction that the decoder reads from a word numbered as the opcode table numbers it. -/
def decodeTableWord (nbits w : Nat) : Option Instr :=
  match tableOpWord nbits w with
  | none => none
  | some word =>
    match decode word with
    | .ok i => some i
    | .error _ => none

end Sys2Proof
end

