-- ==== Sys2Proof/Machine/State.lean ====
section
/-! DEFINITION. The state record of R20, the inputs and outputs of a step as plain data beside it, the reasons a step
can stop, and the state after power-on. -/

namespace Sys2Proof.Machine

/-- PHASE, the Bus State (R22); its reserved values 5 to 7 are not representable (R48). -/
inductive Phase where
  | idle | receiving | rts | sending | suspended
  deriving DecidableEq, Repr

/-- SEQ, the host sequencer (R36); its reserved values 5 to 7 are not representable (R48). -/
inductive Sequencer where
  | ready | rtsHold | writeHold | writeWait | resetHold
  deriving DecidableEq, Repr

/-- The statuses a response can carry (R89); no other is representable (U7). -/
inductive Status where
  | ok | bufferEmpty | busBusy | timeout | unacknowledged | illegalCommand
  deriving DecidableEq, Repr

/-- The response of an accepted command: status and value (R88). -/
structure Response where
  status : Status
  value  : BitVec 9
  deriving DecidableEq, Repr

/-- The event labels: the error kinds of R89 and the progress labels of R95. -/
inductive Label where
  | malformedStart | parityError | frameError | bufferEmpty | bufferOverflow | busBusy | timeout | unacknowledged
  | rxStart | rxDone | txStart | txDone | illegalCommand
  deriving DecidableEq, Repr

/-- One turn of the interleaving of R203, given to one agent of R8 (log entry 3). -/
inductive Turn where
  /-- The device makes CLOCK fall while it holds DATA at level `v` (R94, R100). -/
  | edge (v : Bool)
  /-- The clock-edge detector takes a sample while the device's two outputs are `devClk` and `devDat` (R35, R40, R100). -/
  | sample (devClk devDat : Bool)
  /-- The host has its turn: the command it offers is accepted if SEQ = READY and waits otherwise (R150). -/
  | host
  /-- The sequencer has its turn: the urgent step, if one is enabled (R166). -/
  | urgent
  /-- Time has its turn: one TICK (R165). -/
  | tick
  /-- `rst_n` is asserted: power-on reset (R45, R220). -/
  | powerOn
  deriving DecidableEq, Repr

/-- A memory of cells by slot index, in canonical form: indices strictly rising, and only slots that have been written
since power-on listed. -/
abbrev Memory (α : Type) := List (Nat × α)

/-- The complete state of one instance (R20) and, after it, the parameters, inputs and outputs that a function of one
state record needs as data. -/
structure State where
  /-- PHASE (R22). -/
  phase   : Phase
  /-- RXSHIFT (R23). -/
  rxShift : Frame
  /-- RXPAR (R24). -/
  rxPar   : Bool
  /-- RXPE (R25). -/
  rxPe    : Bool
  /-- RXPOS (R26). -/
  rxPos   : Pos
  /-- TXBYTE (R27). -/
  txByte  : Byte
  /-- TXPAR (R28). -/
  txPar   : Bool
  /-- TXPOS (R29). -/
  txPos   : Pos
  /-- TXDONE (R30). -/
  txDone  : Bool
  /-- TXNAK (R30). -/
  txNak   : Bool
  /-- IEN (R31). -/
  ien     : Bool
  /-- BUF (R32). -/
  buf     : List Host.Cell
  /-- BUFPE (R32). -/
  bufPe   : List (Nat × Bool)
  /-- HEAD (R33). -/
  head    : Nat
  /-- TAIL (R33). -/
  tail    : Nat
  /-- HCLK (R34). -/
  hclk    : Bool
  /-- HDAT (R34). -/
  hdat    : Bool
  /-- SEQ (R36). -/
  seq     : Sequencer
  /-- HOLDCNT (R37). -/
  holdCnt : Nat
  /-- WDCNT (R38). -/
  wdCnt   : Nat
  /-- CLKPREV (R35). -/
  clkPrev : Bool
  /-- The OPEN parameters (R5); no step changes them. The model's own field, log entry 1. -/
  params  : Params
  /-- The number of this power-on, which picks the free contents of unwritten slots. The model's own field, log entry 2. -/
  epoch   : Nat
  /-- The turns still to come, the next first. The model's own field, log entry 3. -/
  agenda  : List Turn
  /-- The command words the host still has to offer, the one on `cmd_word` first (R45). The model's own field, log entry 3. -/
  cmds    : List CmdWord
  /-- The response delivered by the last step, if any: `rsp_valid`, `rsp_word` (R45, R88). The model's own field, log entry 4. -/
  rsp     : Option Response
  /-- The label of the last step, if any: `ev_valid`, `ev_code` (R45, R95). The model's own field, log entry 4. -/
  ev      : Option Label
  deriving DecidableEq, Repr

/-- Why the machine stops with a fault. -/
inductive Fault where
  /-- Raised by step, whatever turn but power-on is next, when HEAD or TAIL is at or above BUF_SLOTS, a state that no
  rule produces and to which the spec gives no behaviour (R48, U6); and by PUSH, POP and COUNT, which read an index,
  when exec is asked for one in such a state. Safe: the model stops. -/
  | noSuchSlot
  /-- Raised by step when the edge dispatch key of a qualifying edge is not in the table of R90, which R46 makes
  unreachable (U6). Safe: the model stops. -/
  | undecodable (e : DecodeError)
  deriving DecidableEq, Repr

/-- Why an operation is refused a meaning. -/
inductive Refusal where
  /-- An arm of exec whose operation has no meaning yet. Safe; no arm uses it. -/
  | notModelled (mnemonic : String)
  /-- Raised by the edge micro-operations and the sequencer steps when the condition of their rule that selects or
  enables them does not hold ("Selected when", "Enabled when"): the block takes no such step then. Safe; step raises
  it only in states that no rule produces. -/
  | notSelected
  deriving DecidableEq, Repr

/-- The power-on column of R47 (R220), with the parameters, the power-on number and the inputs still to come. Nothing
is listed in BUF and BUFPE: their contents are unspecified (U4). -/
def State.atPowerOn (p : Params) (epoch : Nat) (agenda : List Turn) (cmds : List CmdWord) : State :=
  { phase := .idle, rxShift := 0, rxPar := false, rxPe := false, rxPos := 0,
    txByte := 0, txPar := false, txPos := 0, txDone := false, txNak := false,
    ien := false, buf := [], bufPe := [], head := 0, tail := 0,
    hclk := false, hdat := false, seq := .ready, holdCnt := 0, wdCnt := 0, clkPrev := true,
    params := p, epoch := epoch, agenda := agenda, cmds := cmds, rsp := none, ev := none }

/-- The machine right after power-on (R47, R220), with the default parameters, and nothing offered by the host or the
device. -/
def State.reset : State := State.atPowerOn Params.default 0 [] []

/-- The three outcomes of a step of this machine. -/
abbrev Result := Host.Outcome State Fault Refusal

end Sys2Proof.Machine
end

