-- ==== Sys2Proof/Machine/Operands.lean ====
section
/-! DEFINITION. The operand forms: line levels, the sampled bit, edge qualification, the bits of the frames, the
codes of the enumerated registers, the edge dispatch key, and the words of the output ports. -/

namespace Sys2Proof.Machine

/-- The encoding of PHASE (R22). -/
def Phase.code : Phase → BitVec 3
  | .idle => 0#3
  | .receiving => 1#3
  | .rts => 2#3
  | .sending => 3#3
  | .suspended => 4#3

/-- The encoding of SEQ (R36). -/
def Sequencer.code : Sequencer → BitVec 3
  | .ready => 0#3
  | .rtsHold => 1#3
  | .writeHold => 2#3
  | .writeWait => 3#3
  | .resetHold => 4#3

/-- The status codes (R89). -/
def Status.code : Status → BitVec 4
  | .ok => 0#4
  | .bufferEmpty => 4#4
  | .busBusy => 6#4
  | .timeout => 7#4
  | .unacknowledged => 8#4
  | .illegalCommand => 15#4

/-- The label codes (R89, R95). -/
def Label.code : Label → BitVec 4
  | .malformedStart => 1#4
  | .parityError => 2#4
  | .frameError => 3#4
  | .bufferEmpty => 4#4
  | .bufferOverflow => 5#4
  | .busBusy => 6#4
  | .timeout => 7#4
  | .unacknowledged => 8#4
  | .rxStart => 9#4
  | .rxDone => 10#4
  | .txStart => 11#4
  | .txDone => 12#4
  | .illegalCommand => 15#4

/-- The label that goes with a status: `raise <Error>` in a host command attaches the label of the error kind and
responds with its status (R10, R89); a success carries none (R95). DEDUCED, log entry 6. -/
def Status.label : Status → Option Label
  | .ok => none
  | .bufferEmpty => some .bufferEmpty
  | .busBusy => some .busBusy
  | .timeout => some .timeout
  | .unacknowledged => some .unacknowledged
  | .illegalCommand => some .illegalCommand

/-- The 13-bit response word (R88). -/
def Response.word (r : Response) : RspWord := r.status.code ++ r.value

/-- The level of CLOCK, `~HCLK & dev_clk` (R40). -/
def State.clockLine (s : State) (devClk : Bool) : Bool := !s.hclk && devClk

/-- The level of DATA, `~HDAT & dev_dat` (R40). -/
def State.dataLine (s : State) (devDat : Bool) : Bool := !s.hdat && devDat

/-- The bit that an edge step samples: the level of DATA while the device holds it at `v`, `d = v & ~HDAT` (R101). -/
def State.sampled (s : State) (v : Bool) : Bool := s.dataLine v

/-- A fall of CLOCK is an engine step only if IEN = 1 and HCLK = 0 (R100). -/
def State.qualifies (s : State) : Bool := s.ien && !s.hclk

/-- The condition of the clock-edge detector on a sample of the pin, `IEN & ~HCLK & CLKPREV & ~ps2_clk_in` (R100). -/
def State.detects (s : State) (pin : Bool) : Bool := s.qualifies && s.clkPrev && !pin

/-- POS: RXPOS when PHASE is IDLE or RECEIVING and TXPOS otherwise (R90). -/
def State.pos (s : State) : Pos :=
  match s.phase with
  | .idle => s.rxPos
  | .receiving => s.rxPos
  | .rts => s.txPos
  | .sending => s.txPos
  | .suspended => s.txPos

/-- The edge dispatch key of a phase and a position (R90). -/
def keyOf (p : Phase) (n : Pos) : EdgeKey := p.code ++ BitVec.ofNat 4 n.val

/-- The edge dispatch key of a state, `{PHASE[2:0], POS[3:0]}` (R90). -/
def State.edgeKey (s : State) : EdgeKey := keyOf s.phase s.pos

/-- `X[k] <- d` on a frame register (R10, R23). -/
def setBit (x : Frame) (k : Nat) (d : Bool) : Frame :=
  if d then x ||| (1#11 <<< k) else x &&& ~~~(1#11 <<< k)

/-- The received byte, `RXSHIFT[8:1]` (R83). -/
def frameByte (x : Frame) : Byte := x.extractLsb' 1 8

/-- The slot value that READ returns, `{BUFPE[HEAD], BUF[HEAD]}` (R88, R142). -/
def slotValue (pe : Bool) (byte : Byte) : BitVec 9 := BitVec.ofBool pe ++ byte

/-- `cmd_ready`: a command can be accepted (R45, R150). -/
def State.cmdReady (s : State) : Bool := s.seq = .ready

/-- `rsp_word` of the step just taken, `rsp_valid` being that there is one (R45, R88). -/
def State.rspWord (s : State) : Option RspWord := s.rsp.map Response.word

/-- `ev_code` of the step just taken, `ev_valid` being that there is one (R45, R95). -/
def State.evCode (s : State) : Option (BitVec 4) := s.ev.map Label.code

/-- `ps2_clk_oe` and `ps2_dat_oe`: 1 pulls the line low (R45). -/
def State.lineEnables (s : State) : Bool × Bool := (s.hclk, s.hdat)

/-- `tx_done` and `tx_nak` (R45). -/
def State.txOutputs (s : State) : Bool × Bool := (s.txDone, s.txNak)

end Sys2Proof.Machine
end

