-- ==== Sys2Proof/Machine/Flags.lean ====
section
/-! DEFINITION. The parity computations and the flags RXPE and TXNAK. -/

namespace Sys2Proof.Machine

/-- The exclusive or of the lowest `n` bits of a byte: what a one-bit parity accumulator holds after `n` of them
(R24, R28). -/
def parityOfLow (b : Byte) : Nat → Bool
  | 0 => false
  | n + 1 => parityOfLow b n ^^ b.getLsbD n

/-- The parity accumulator after one more bit, `acc ^ d` (R14, R105, R106, R121). -/
def accumulate (acc d : Bool) : Bool := acc ^^ d

/-- The odd-parity bit of a byte: 1 when it has an even number of 1 bits (R82). -/
def oddParityBit (b : Byte) : Bool := !parityOfLow b 8

/-- RXPE after the parity bit `d` is added to the accumulator: odd parity holds when the total is 1 (R106). -/
def parityFails (acc d : Bool) : Bool := !accumulate acc d

/-- HDAT for presenting a bit on DATA: 0 pulls the line low, 1 releases it (R11, R121, R122). -/
def driveFor (bit : Bool) : Bool := !bit

/-- TXNAK from the level sampled at the acknowledgment: low means acknowledged (R124). -/
def nakOf (d : Bool) : Bool := d

/-- TXIMG, the 11-bit image of the host-to-device frame of a byte, `{1, p, byte, 0}` (R28, R84); not a register. -/
def txImage (b : Byte) : Frame := 1#1 ++ BitVec.ofBool (oddParityBit b) ++ b ++ 0#1

end Sys2Proof.Machine
end

