-- ==== Sys2Proof/Machine/Ops.lean ====
section
/-! DEFINITION. The shared operations: memory, the outputs of a step, the conditions under which a step is taken, the
ring buffer primitives of R140 to R144, the register updates that several rules share, and raising an error (R200). -/

namespace Sys2Proof.Machine

/-- Reading one slot of a memory: nothing if the slot has not been written since power-on. -/
def Memory.load {α : Type} : Memory α → Nat → Option α
  | [], _ => none
  | (b, w) :: m, a => if a = b then some w else Memory.load m a

/-- Writing one slot of a memory, keeping its indices strictly rising. -/
def Memory.store {α : Type} : Memory α → Nat → α → Memory α
  | [], a, v => [(a, v)]
  | (b, w) :: m, a, v =>
    if a < b then (a, v) :: (b, w) :: m
    else if a = b then (a, v) :: m
    else (b, w) :: Memory.store m a v

/-- Every index of the memory is above `lo`, and the indices rise strictly. -/
def Memory.risesAbove {α : Type} : Nat → Memory α → Bool
  | _, [] => true
  | lo, (a, _) :: m => decide (lo < a) && Memory.risesAbove a m

/-- The canonical form of a memory: its indices rise strictly. -/
def Memory.wf {α : Type} : Memory α → Bool
  | [] => true
  | (a, _) :: m => Memory.risesAbove a m

/-- The start of every step: no response and no label yet, since both are outputs of one step (R42, R45). -/
def State.quiet (s : State) : State := { s with rsp := none, ev := none }

/-- `respond(status, value)` (R10, R88). -/
def State.respond (s : State) (status : Status) (value : BitVec 9) : State :=
  { s with rsp := some { status := status, value := value } }

/-- `label(L)` (R10, R95). -/
def State.emit (s : State) (l : Label) : State := { s with ev := some l }

/-- Raising an error in a host command or a sequencer step: the status is returned to the caller and the label is
attached; nothing is saved, no mode changes and control goes nowhere, since the block has no trap (R10, R200). -/
def State.raise (s : State) (status : Status) : State :=
  { s with rsp := some { status := status, value := 0 }, ev := status.label }

/-- A host command is accepted only when SEQ = READY; otherwise the offered command waits and nothing changes (R150). -/
def State.accept (s : State) (body : State → Result) : Result :=
  if s.seq = .ready then body s.quiet else .next s.quiet

/-- An edge that does not qualify changes nothing and carries no label (R108); one that does is taken by the
micro-operation whose condition `selected` holds (R90). -/
def State.onEdge (s : State) (selected : Bool) (body : State → Result) : Result :=
  if s.qualifies then (if selected then body s.quiet else .refused .notSelected) else .next s.quiet

/-- A step of the sequencer or of time is taken when its condition holds (R161 to R165). -/
def State.whenEnabled (s : State) (enabled : Bool) (body : State → Result) : Result :=
  if enabled then body s.quiet else .refused .notSelected

/-- HEAD and TAIL are slot indices (R33, R60). -/
def State.indicesOk (s : State) : Bool := decide (s.head < s.params.bufSlots) && decide (s.tail < s.params.bufSlots)

/-- A primitive that reads an index: with HEAD or TAIL outside the buffer there is no slot to name (R48, U6). No step
comes here in such a state, since step faults first. -/
def State.withIndices (s : State) (body : State → Result) : Result :=
  if s.indicesOk then body s else .fault .noSuchSlot

/-- `(i + 1) mod BUF_SLOTS`, the index after `i` (R64, R140). -/
def State.nextIndex (s : State) (i : Nat) : Nat := (i + 1) % s.params.bufSlots

/-- COUNT, `(TAIL - HEAD) mod BUF_SLOTS` with the non-negative remainder (R9, R143). -/
def State.count (s : State) : Nat := (((s.tail : Int) - (s.head : Int)) % (s.params.bufSlots : Int)).toNat

/-- The buffer is full: the index after TAIL is HEAD (R141). -/
def State.full (s : State) : Bool := s.nextIndex s.tail = s.head

/-- BUF[i]; a slot never written since power-on holds any value (R32, U4). -/
def State.bufByte (s : State) (i : Nat) : Byte := (Memory.load s.buf i).getD (Config.freeByte s.epoch i)

/-- BUFPE[i]; a slot never written since power-on holds any value (R32, U4). -/
def State.bufFlag (s : State) (i : Nat) : Bool := (Memory.load s.bufPe i).getD (Config.freeFlag s.epoch i)

/-- `BufWrite(i, pe, byte)` (R10). -/
def State.bufWrite (s : State) (i : Nat) (pe : Bool) (byte : Byte) : State :=
  { s with buf := Memory.store s.buf i byte, bufPe := Memory.store s.bufPe i pe }

/-- PUSH(pe, byte): store a completed byte, or drop it if the buffer is full (R141). -/
def State.push (s : State) (pe : Bool) (byte : Byte) : State :=
  if s.full then s.emit .bufferOverflow
  else { s.bufWrite s.tail pe byte with tail := s.nextIndex s.tail, ev := some .rxDone }

/-- The oldest stored byte and its flag, as POP returns them (R142). -/
def State.oldest (s : State) : BitVec 9 := slotValue (s.bufFlag s.head) (s.bufByte s.head)

/-- POP on a buffer that is not empty: HEAD moves on (R142). -/
def State.advanceHead (s : State) : State := { s with head := s.nextIndex s.head }

/-- CLEAR: discard every stored byte (R144). -/
def State.clearRing (s : State) : State := { s with head := 0, tail := 0 }

/-- The writes that BEGIN and RESET share: PHASE to IDLE, both in-progress frames and the result flags cleared
(R151, R156). -/
def State.clearFrames (s : State) : State :=
  { s with phase := .idle, rxShift := 0, rxPar := false, rxPe := false, rxPos := 0,
           txPar := false, txPos := 0, txDone := false, txNak := false }

/-- Both lines pulled low or released together (R151, R156, R162, R164). -/
def State.driveLines (s : State) (low : Bool) : State := { s with hclk := low, hdat := low }

/-- The writes that RTS and WRITE share at acceptance: the request is pending, CLOCK is pulled low and the hold is
loaded (R154, R159). -/
def State.requestToSend (s : State) (seq : Sequencer) : State :=
  { s with phase := .rts, txPos := 0, txPar := false, txDone := false, txNak := false,
           hclk := true, holdCnt := s.params.holdTicks, seq := seq }

/-- The writes that both rows of HOLD_DONE share: the start bit is put on DATA and CLOCK is released (R161). -/
def State.startBit (s : State) (seq : Sequencer) : State := { s with hdat := true, hclk := false, seq := seq }

/-- HOLD_DONE is enabled for the hold `seq` (R161), and likewise RESET_DONE (R162). -/
def State.holdOver (s : State) (seq : Sequencer) : Bool := decide (s.seq = seq) && decide (s.holdCnt = 0)

/-- WRITE_DONE is enabled (R163). -/
def State.writeDoneEnabled (s : State) : Bool := decide (s.seq = .writeWait) && s.txDone

/-- WRITE_TIMEOUT is enabled (R164). -/
def State.timeoutEnabled (s : State) : Bool := decide (s.seq = .writeWait) && !s.txDone && decide (s.wdCnt = 0)

/-- An urgent step is enabled (R166). -/
def State.urgentEnabled (s : State) : Bool :=
  s.holdOver .rtsHold || s.holdOver .writeHold || s.holdOver .resetHold || s.writeDoneEnabled || s.timeoutEnabled

/-- SEQ is one of the three holds, in which HOLDCNT counts down (R37, R165). -/
def Sequencer.holds : Sequencer → Bool
  | .ready => false
  | .rtsHold => true
  | .writeHold => true
  | .writeWait => false
  | .resetHold => true

/-- SEQ is one of the two states in which the watchdog counts down (R38, R165). -/
def Sequencer.watches : Sequencer → Bool
  | .ready => false
  | .rtsHold => false
  | .writeHold => true
  | .writeWait => true
  | .resetHold => false

/-- The counters after one unit of time (R165). -/
def State.countDown (s : State) : State :=
  { s with holdCnt := if s.seq.holds then s.holdCnt - 1 else s.holdCnt,
           wdCnt := if s.seq.watches ∧ 0 < s.wdCnt then s.wdCnt - 1 else s.wdCnt }

/-- `rst_n` asserted: every register takes its power-on value and the slots hold any value again (R220). The inputs
still to come and the parameters are outside the block and stay. -/
def State.powerOn (s : State) : State := State.atPowerOn s.params (s.epoch + 1) s.agenda s.cmds

/-- The next state of an outcome, if it has one. -/
def nextState : Result → Option State
  | .next s => some s
  | .fault _ => none
  | .refused _ => none

end Sys2Proof.Machine
end

