-- ==== Sys2Proof/Machine/Command.lean ====
section
/-! DEFINITION. The nine host commands and the reserved command codes (R151 to R160), each its acceptance step. -/

namespace Sys2Proof.Machine

/-- BEGIN (R151). -/
def execHostBegin (_arg : Byte) (s : State) : Result :=
  s.accept fun s =>
    .next ({ (s.clearFrames.clearRing.driveLines false) with ien := true }.respond .ok 0)

/-- AVAILABLE (R152). -/
def execHostAvailable (_arg : Byte) (s : State) : Result :=
  s.accept fun s => s.withIndices fun s => .next (s.respond .ok (BitVec.ofNat 9 s.count))

/-- READ (R153). -/
def execHostRead (_arg : Byte) (s : State) : Result :=
  s.accept fun s => s.withIndices fun s =>
    if s.head = s.tail then .next (s.raise .bufferEmpty)
    else .next (s.advanceHead.respond .ok s.oldest)

/-- WRITE, the acceptance step (R154). -/
def execHostWrite (arg : Byte) (s : State) : Result :=
  s.accept fun s =>
    if s.phase = .idle then
      .next { (s.requestToSend .writeHold) with txByte := arg, wdCnt := s.params.watchdogTicks }
    else .next (s.raise .busBusy)

/-- FLUSH (R155): a transmit flush during a send does nothing. -/
def execHostFlush (_ignored : BitVec 6) (tx rx : Bool) (s : State) : Result :=
  s.accept fun s =>
    let s := if rx then s.clearRing else s
    let s := if tx && !(s.phase = .rts) && !(s.phase = .sending)
      then { s with txByte := 0, txDone := false, txNak := false } else s
    .next (s.respond .ok 0)

/-- RESET, the acceptance step (R156). -/
def execHostReset (_arg : Byte) (s : State) : Result :=
  s.accept fun s =>
    .next { (s.clearFrames.clearRing.driveLines true) with holdCnt := s.params.resetHoldTicks, seq := .resetHold }

/-- SUSPEND (R157). -/
def execHostSuspend (_arg : Byte) (s : State) : Result :=
  s.accept fun s =>
    match s.phase with
    | .idle => .next ({ s with hclk := true, phase := .suspended }.respond .ok 0)
    | .suspended => .next (s.respond .ok 0)
    | .receiving => .next (s.raise .busBusy)
    | .rts => .next (s.raise .busBusy)
    | .sending => .next (s.raise .busBusy)

/-- RESUME (R158). -/
def execHostResume (_arg : Byte) (s : State) : Result :=
  s.accept fun s =>
    .next ((if s.phase = .suspended then { s with hclk := false, phase := .idle } else s).respond .ok 0)

/-- RTS, the acceptance step (R159). -/
def execHostRts (_arg : Byte) (s : State) : Result :=
  s.accept fun s =>
    if s.phase = .idle then .next (s.requestToSend .rtsHold) else .next (s.raise .busBusy)

/-- A reserved command code (R160): answered with IllegalCommand, no state change. -/
def reservedCommand (s : State) : Result := s.accept fun s => .next (s.raise .illegalCommand)

/-- RESERVED_9 (R160). -/
def execReserved9 (_arg : Byte) (s : State) : Result := reservedCommand s

/-- RESERVED_A (R160). -/
def execReservedA (_arg : Byte) (s : State) : Result := reservedCommand s

/-- RESERVED_B (R160). -/
def execReservedB (_arg : Byte) (s : State) : Result := reservedCommand s

/-- RESERVED_C (R160). -/
def execReservedC (_arg : Byte) (s : State) : Result := reservedCommand s

/-- RESERVED_D (R160). -/
def execReservedD (_arg : Byte) (s : State) : Result := reservedCommand s

/-- RESERVED_E (R160). -/
def execReservedE (_arg : Byte) (s : State) : Result := reservedCommand s

/-- RESERVED_F (R160). -/
def execReservedF (_arg : Byte) (s : State) : Result := reservedCommand s

end Sys2Proof.Machine
end

