-- ==== Sys2Proof/Machine/Receive.lean ====
section
/-! DEFINITION. The receive micro-operations RX_START, RX_DATA, RX_PARITY and RX_STOP (R104 to R107). -/

namespace Sys2Proof.Machine

/-- RX_START (R104). The three receive registers are cleared on the error path too. -/
def execRxStart (v : Bool) (s : State) : Result :=
  s.onEdge (s.phase = .idle) fun s =>
    let cleared := { s with rxShift := 0, rxPar := false, rxPe := false }
    if s.sampled v then
      .next ({ cleared with rxPos := 0, phase := .idle }.emit .malformedStart)
    else
      .next ({ cleared with rxPos := 1, phase := .receiving }.emit .rxStart)

/-- RX_DATA at position `k` (R105), shared by its eight rows. -/
def rxDataAt (k : Pos) (v : Bool) (s : State) : Result :=
  s.onEdge (s.phase = .receiving && s.rxPos = k) fun s =>
    let d := s.sampled v
    .next { s with rxShift := setBit s.rxShift k.val d, rxPar := accumulate s.rxPar d, rxPos := k + 1 }

/-- RX_DATA, position 1 (R105). -/
def execRxData1 (v : Bool) (s : State) : Result := rxDataAt 1 v s

/-- RX_DATA, position 2 (R105). -/
def execRxData2 (v : Bool) (s : State) : Result := rxDataAt 2 v s

/-- RX_DATA, position 3 (R105). -/
def execRxData3 (v : Bool) (s : State) : Result := rxDataAt 3 v s

/-- RX_DATA, position 4 (R105). -/
def execRxData4 (v : Bool) (s : State) : Result := rxDataAt 4 v s

/-- RX_DATA, position 5 (R105). -/
def execRxData5 (v : Bool) (s : State) : Result := rxDataAt 5 v s

/-- RX_DATA, position 6 (R105). -/
def execRxData6 (v : Bool) (s : State) : Result := rxDataAt 6 v s

/-- RX_DATA, position 7 (R105). -/
def execRxData7 (v : Bool) (s : State) : Result := rxDataAt 7 v s

/-- RX_DATA, position 8 (R105). -/
def execRxData8 (v : Bool) (s : State) : Result := rxDataAt 8 v s

/-- RX_PARITY (R106): the frame goes on whatever the parity. -/
def execRxParity (v : Bool) (s : State) : Result :=
  s.onEdge (s.phase = .receiving && s.rxPos = 9) fun s =>
    let d := s.sampled v
    let t := { s with rxShift := setBit s.rxShift 9 d, rxPar := accumulate s.rxPar d,
                      rxPe := parityFails s.rxPar d, rxPos := 10 }
    .next (if parityFails s.rxPar d then t.emit .parityError else t)

/-- RX_STOP (R107): the stop bit is tested first, and only a valid one leads to PUSH (R204). -/
def execRxStop (v : Bool) (s : State) : Result :=
  s.onEdge (s.phase = .receiving && s.rxPos = 10) fun s =>
    let d := s.sampled v
    let t := { s with rxShift := setBit s.rxShift 10 d, rxPos := 0, phase := .idle }
    if d then t.withIndices fun t => .next (t.push s.rxPe (frameByte s.rxShift))
    else .next (t.emit .frameError)

end Sys2Proof.Machine
end

