-- ==== Sys2Proof/Machine/Sequence.lean ====
section
/-! DEFINITION. The steps that finish a blocking command, and TICK (R161 to R166). -/

namespace Sys2Proof.Machine

/-- HOLD_DONE of an RTS command (R161): the command is complete. -/
def execHoldDoneRts (s : State) : Result :=
  s.whenEnabled (s.holdOver .rtsHold) fun s => .next ((s.startBit .ready).respond .ok 0)

/-- HOLD_DONE of a WRITE command (R161): no response yet. -/
def execHoldDoneWrite (s : State) : Result :=
  s.whenEnabled (s.holdOver .writeHold) fun s => .next (s.startBit .writeWait)

/-- RESET_DONE (R162). -/
def execResetDone (s : State) : Result :=
  s.whenEnabled (s.holdOver .resetHold) fun s =>
    .next ({ (s.driveLines false) with seq := .ready }.respond .ok 0)

/-- WRITE_DONE (R163). It answers with a status and carries no label: Unacknowledged is raised as a label by TX_ACK
and as a status here (R198). -/
def execWriteDone (s : State) : Result :=
  s.whenEnabled s.writeDoneEnabled fun s =>
    .next ({ s with seq := .ready }.respond (if s.txNak then .unacknowledged else .ok) 0)

/-- WRITE_TIMEOUT (R164, R197). -/
def execWriteTimeout (s : State) : Result :=
  s.whenEnabled s.timeoutEnabled fun s =>
    .next ({ (s.driveLines false) with phase := .idle, txPos := 0, txPar := false, seq := .ready }.raise .timeout)

/-- TICK (R165): enabled when no urgent step is, for the value `q` of SEQ that its row's field names. -/
def execTick (q : BitVec 3) (s : State) : Result :=
  s.whenEnabled (s.seq.code = q && !s.urgentEnabled) fun s => .next s.countDown

end Sys2Proof.Machine
end

