-- ==== Sys2Proof/Machine/Transmit.lean ====
section
/-! DEFINITION. The transmit micro-operations TX_DATA, TX_PARITY, TX_STOP and TX_ACK (R121 to R124). -/

namespace Sys2Proof.Machine

/-- The writes of TX_DATA at position `p` (R121), shared by its eight rows; the sampled level is not looked at. -/
def presentBit (p : Pos) (s : State) : State :=
  let b := s.txByte.getLsbD p.val
  { s with phase := .sending, hdat := driveFor b, txPar := accumulate s.txPar b, txPos := p + 1 }

/-- TX_DATA at a position `p` above 0 (R121), shared by seven rows. -/
def txDataAt (p : Pos) (s : State) : Result :=
  s.onEdge (s.phase = .sending && s.txPos = p) fun s => .next (presentBit p s)

/-- TX_DATA, position 0: the first edge of a send frame, taken in PHASE = RTS; SENDING at position 0 is unreachable and
handled by the same rule (R121). -/
def execTxData0 (_v : Bool) (s : State) : Result :=
  s.onEdge ((s.phase = .rts || s.phase = .sending) && s.txPos = 0) fun s =>
    .next ((presentBit 0 s).emit .txStart)

/-- TX_DATA, position 1 (R121). -/
def execTxData1 (_v : Bool) (s : State) : Result := txDataAt 1 s

/-- TX_DATA, position 2 (R121). -/
def execTxData2 (_v : Bool) (s : State) : Result := txDataAt 2 s

/-- TX_DATA, position 3 (R121). -/
def execTxData3 (_v : Bool) (s : State) : Result := txDataAt 3 s

/-- TX_DATA, position 4 (R121). -/
def execTxData4 (_v : Bool) (s : State) : Result := txDataAt 4 s

/-- TX_DATA, position 5 (R121). -/
def execTxData5 (_v : Bool) (s : State) : Result := txDataAt 5 s

/-- TX_DATA, position 6 (R121). -/
def execTxData6 (_v : Bool) (s : State) : Result := txDataAt 6 s

/-- TX_DATA, position 7 (R121). -/
def execTxData7 (_v : Bool) (s : State) : Result := txDataAt 7 s

/-- TX_PARITY (R122): TXPAR holds the parity of the data bits, and the odd-parity bit is its complement. -/
def execTxParity (_v : Bool) (s : State) : Result :=
  s.onEdge (s.phase = .sending && s.txPos = 8) fun s =>
    .next { s with hdat := driveFor (!s.txPar), txPos := 9 }

/-- TX_STOP (R123). -/
def execTxStop (_v : Bool) (s : State) : Result :=
  s.onEdge (s.phase = .sending && s.txPos = 9) fun s => .next { s with hdat := false, txPos := 10 }

/-- TX_ACK (R124): the frame ends whatever the device does. -/
def execTxAck (v : Bool) (s : State) : Result :=
  s.onEdge (s.phase = .sending && s.txPos = 10) fun s =>
    let d := s.sampled v
    .next ({ s with txDone := true, txNak := nakOf d, txPos := 0, phase := .idle }.emit
      (if d then .unacknowledged else .txDone))

end Sys2Proof.Machine
end

