-- ==== Sys2Proof/Machine/Dispatch.lean ====
section
/-! DEFINITION. The meaning of every operation: one arm per constructor. -/

namespace Sys2Proof.Machine

def exec (i : Instr) (s : State) : Host.Outcome State Fault Refusal :=
  match i with
  | .hostBegin arg => Sys2Proof.Machine.execHostBegin arg s
  | .hostAvailable arg => Sys2Proof.Machine.execHostAvailable arg s
  | .hostRead arg => Sys2Proof.Machine.execHostRead arg s
  | .hostWrite arg => Sys2Proof.Machine.execHostWrite arg s
  | .hostFlush ignored tx rx => Sys2Proof.Machine.execHostFlush ignored tx rx s
  | .hostReset arg => Sys2Proof.Machine.execHostReset arg s
  | .hostSuspend arg => Sys2Proof.Machine.execHostSuspend arg s
  | .hostResume arg => Sys2Proof.Machine.execHostResume arg s
  | .hostRts arg => Sys2Proof.Machine.execHostRts arg s
  | .reserved9 arg => Sys2Proof.Machine.execReserved9 arg s
  | .reservedA arg => Sys2Proof.Machine.execReservedA arg s
  | .reservedB arg => Sys2Proof.Machine.execReservedB arg s
  | .reservedC arg => Sys2Proof.Machine.execReservedC arg s
  | .reservedD arg => Sys2Proof.Machine.execReservedD arg s
  | .reservedE arg => Sys2Proof.Machine.execReservedE arg s
  | .reservedF arg => Sys2Proof.Machine.execReservedF arg s
  | .rxStart v => Sys2Proof.Machine.execRxStart v s
  | .rxData1 v => Sys2Proof.Machine.execRxData1 v s
  | .rxData2 v => Sys2Proof.Machine.execRxData2 v s
  | .rxData3 v => Sys2Proof.Machine.execRxData3 v s
  | .rxData4 v => Sys2Proof.Machine.execRxData4 v s
  | .rxData5 v => Sys2Proof.Machine.execRxData5 v s
  | .rxData6 v => Sys2Proof.Machine.execRxData6 v s
  | .rxData7 v => Sys2Proof.Machine.execRxData7 v s
  | .rxData8 v => Sys2Proof.Machine.execRxData8 v s
  | .rxParity v => Sys2Proof.Machine.execRxParity v s
  | .rxStop v => Sys2Proof.Machine.execRxStop v s
  | .txData0 v => Sys2Proof.Machine.execTxData0 v s
  | .txData1 v => Sys2Proof.Machine.execTxData1 v s
  | .txData2 v => Sys2Proof.Machine.execTxData2 v s
  | .txData3 v => Sys2Proof.Machine.execTxData3 v s
  | .txData4 v => Sys2Proof.Machine.execTxData4 v s
  | .txData5 v => Sys2Proof.Machine.execTxData5 v s
  | .txData6 v => Sys2Proof.Machine.execTxData6 v s
  | .txData7 v => Sys2Proof.Machine.execTxData7 v s
  | .txParity v => Sys2Proof.Machine.execTxParity v s
  | .txStop v => Sys2Proof.Machine.execTxStop v s
  | .txAck v => Sys2Proof.Machine.execTxAck v s
  | .holdDoneRts => Sys2Proof.Machine.execHoldDoneRts s
  | .holdDoneWrite => Sys2Proof.Machine.execHoldDoneWrite s
  | .resetDone => Sys2Proof.Machine.execResetDone s
  | .writeDone => Sys2Proof.Machine.execWriteDone s
  | .writeTimeout => Sys2Proof.Machine.execWriteTimeout s
  | .tick q => Sys2Proof.Machine.execTick q s

end Sys2Proof.Machine
end

