-- ==== Sys2Proof/Machine/Fetch.lean ====
section
/-! DEFINITION. What the next step runs: the interleaving of the agents (R7, R8, R203), the edge detector (R100),
the acceptance of commands (R150), urgency (R166), when a state is faulted (R48), and laying a word of the opcode table
where the next step takes it. -/

namespace Sys2Proof.Machine

/-- What the next turn comes to: an operation named by its selector, run on a state, or no operation at all and the
state that is left. -/
inductive Fetched where
  | run (w : OpWord) (s : State)
  | still (s : State)
  deriving DecidableEq, Repr

/-- The selector of the sequencer and of time: SEQ and the three conditions its rows name (R161 to R165). -/
def State.seqWord (s : State) : OpWord :=
  .seq3 s.seq.code (decide (s.holdCnt = 0)) s.txDone (decide (s.wdCnt = 0))

/-- The device makes CLOCK fall with DATA at `v`: an engine step if the edge qualifies, and nothing otherwise
(R100, R108). -/
def State.offerEdge (s : State) (v : Bool) : Fetched :=
  if s.qualifies then .run (.edge s.edgeKey v) s else .still s.quiet

/-- The detector samples the CLOCK pin, offers an edge if the pin fell, and remembers the sample (R35, R100). -/
def State.offerSample (s : State) (devClk devDat : Bool) : Fetched :=
  let pin := s.clockLine devClk
  let after := { s with clkPrev := pin }
  if s.detects pin then .run (.edge s.edgeKey devDat) after else .still after.quiet

/-- The host's turn: the offered command word is taken when SEQ = READY and waits otherwise (R71, R150). -/
def State.offerCommand (s : State) : Fetched :=
  match s.cmds with
  | [] => .still s.quiet
  | w :: rest => if s.seq = .ready then .run (.cmd12 w) { s with cmds := rest } else .still s.quiet

/-- The sequencer's turn: the urgent step, if one is enabled (R166). -/
def State.offerUrgent (s : State) : Fetched := if s.urgentEnabled then .run s.seqWord s else .still s.quiet

/-- With no turn given, the port-level order of R203: an urgent step, then an offered command, then TICK. -/
def State.offerDefault (s : State) : Fetched :=
  if s.urgentEnabled then .run s.seqWord s
  else
    match s.cmds with
    | [] => .run s.seqWord s
    | w :: rest => if s.seq = .ready then .run (.cmd12 w) { s with cmds := rest } else .run s.seqWord s

/-- What the next step runs. A TICK turn is used up only by a TICK: while an urgent step is enabled that step comes
first and the turn stays (R166). -/
def State.fetch (s : State) : Fetched :=
  match s.agenda with
  | [] => s.offerDefault
  | .edge v :: rest => { s with agenda := rest }.offerEdge v
  | .sample devClk devDat :: rest => { s with agenda := rest }.offerSample devClk devDat
  | .host :: rest => { s with agenda := rest }.offerCommand
  | .urgent :: rest => { s with agenda := rest }.offerUrgent
  | .tick :: rest => if s.urgentEnabled then .run s.seqWord s else .run s.seqWord { s with agenda := rest }
  | .powerOn :: rest => .still { s with agenda := rest }.powerOn

/-- The state is faulted: HEAD or TAIL is at or above BUF_SLOTS, to which the spec gives no behaviour (R48, U6). Asserting
`rst_n` is the one way on, since it gives every register its value whatever it held (R220). Log entry 7. -/
def State.faulted (s : State) : Bool := !s.indicesOk && !decide (s.agenda.head? = some .powerOn)

/-- PHASE and POS put where the key says, RXPOS for a receive phase and TXPOS for a transmit one (R90). -/
def State.placeKey (s : State) (key : EdgeKey) : State :=
  let n : Pos := Fin.ofNat 11 (key.toNat % 16)
  match key.toNat / 16 with
  | 0 => { s with phase := .idle, rxPos := n }
  | 1 => { s with phase := .receiving, rxPos := n }
  | 2 => { s with phase := .rts, txPos := n }
  | 3 => { s with phase := .sending, txPos := n }
  | _ => s

/-- SEQ put where an urgent row's code says, with the conditions of that row met (R161 to R164). -/
def State.placeSeq (s : State) (q : BitVec 3) : State :=
  let t := { s with holdCnt := 0, txDone := true }
  match q.toNat with
  | 1 => { t with seq := .rtsHold }
  | 2 => { t with seq := .writeHold }
  | 3 => { t with seq := .writeWait }
  | 4 => { t with seq := .resetHold }
  | _ => s

/-- A selector laid where the next step takes it: a command is offered by the host with SEQ = READY; an edge key
becomes the state's own key, with the edge interrupt enabled and CLOCK released, and the device makes an edge; a
sequencer code becomes the state's own, and the sequencer has the turn. -/
def State.placeOpWord (s : State) : OpWord → State
  | .cmd12 w => { s with seq := .ready, agenda := .host :: s.agenda, cmds := w :: s.cmds }
  | .edge key v => { (s.placeKey key) with ien := true, hclk := false, agenda := .edge v :: s.agenda }
  | .seq3 q _ _ _ => { (s.placeSeq q) with agenda := .urgent :: s.agenda }

/-- A word of the opcode table laid where the next step takes it (log entry 12). -/
def State.placeTableWord (s : State) (nbits w : Nat) : State :=
  match tableOpWord nbits w with
  | none => s
  | some word => s.placeOpWord word

end Sys2Proof.Machine
end

