-- ==== Sys2Proof/Machine/Step.lean ====
section
/-! DEFINITION. The one step function: fetch, decode, exec, in a state that is not faulted. -/

namespace Sys2Proof.Machine

/-- One atomic step of the block and its agents (R7): the operation that the next turn selects is decoded and run; a
turn that selects none leaves the state that fetch gives. A faulted state takes no step (R48). -/
def step (s : State) : Host.Outcome State Fault Refusal :=
  if s.faulted then .fault .noSuchSlot
  else
    match s.fetch with
    | .still t => .next t
    | .run w t =>
      match decode w with
      | .ok i => exec i t
      | .error e => .fault (.undecodable e)

/-- `s` with the instruction of a word of the opcode table laid where step takes its next one. -/
def State.withFetchWord (s : State) (nbits w : Nat) : State := s.placeTableWord nbits w

end Sys2Proof.Machine
end

