-- ==== Sys2Proof/Safety.lean ====
section
/-! DEFINITION. What counts as a safe state and a safe run: the invariants of R34 and R46, the shape of a frame in
progress in each direction (R23, R24, R84), the canonical form of the buffer memory, and the host's duty (U5). Then the
event sequences that claims speak of (R94). -/

namespace Sys2Proof.Machine

/-- R46 item 1: the indices are below BUF_SLOTS. PHASE, SEQ, RXPOS and TXPOS are in range by their types. -/
abbrev State.IndicesInRange (s : State) : Prop := s.head < s.params.bufSlots ∧ s.tail < s.params.bufSlots

/-- R46 items 2 to 4: RXPOS is above 0 exactly while receiving, and TXPOS exactly while sending. -/
abbrev State.PositionsMatchPhase (s : State) : Prop :=
  (s.phase = .receiving ↔ s.rxPos ≠ 0) ∧ (s.phase = .sending ↔ s.txPos ≠ 0)

/-- R46 item 5: during the clock-low hold of a request. -/
abbrev State.HoldShape (s : State) : Prop :=
  (s.seq = .rtsHold ∨ s.seq = .writeHold) → s.phase = .rts ∧ s.hclk = true ∧ s.hdat = false

/-- R46 item 6: a WRITE that waits for a frame not yet finished. -/
abbrev State.WaitShape (s : State) : Prop :=
  s.seq = .writeWait → s.txDone = false → s.phase = .rts ∨ s.phase = .sending

/-- R46 item 7: the wait state. -/
abbrev State.SuspendShape (s : State) : Prop := s.phase = .suspended → s.hclk = true ∧ s.seq = .ready

/-- R46 item 8: during the reset hold. -/
abbrev State.ResetShape (s : State) : Prop :=
  s.seq = .resetHold → s.phase = .idle ∧ s.hclk = true ∧ s.hdat = true ∧ s.head = 0 ∧ s.tail = 0

/-- R46 item 9: a request that has passed its hold has the start bit on DATA. -/
abbrev State.PendingShape (s : State) : Prop :=
  s.phase = .rts → (s.seq = .ready ∨ s.seq = .writeWait) → s.hclk = false ∧ s.hdat = true

/-- R46 item 10: HOLDCNT is 0 outside the holds. -/
abbrev State.HoldCounterShape (s : State) : Prop :=
  s.holdCnt ≠ 0 → s.seq = .rtsHold ∨ s.seq = .writeHold ∨ s.seq = .resetHold

/-- R46 item 11: the result flags. -/
abbrev State.ResultFlagsShape (s : State) : Prop :=
  (s.txNak = true → s.txDone = true) ∧ (s.txDone = true → s.phase ≠ .rts ∧ s.phase ≠ .sending)

/-- R34: when the host may be pulling a line low. Item for HDAT: a send, or the reset hold. Item for HCLK: suspended,
or a hold. -/
abbrev State.DriversShape (s : State) : Prop :=
  (s.hdat = true → s.phase = .rts ∨ s.phase = .sending ∨ s.seq = .resetHold) ∧
  (s.hclk = true → s.phase = .suspended ∨ s.seq = .rtsHold ∨ s.seq = .writeHold ∨ s.seq = .resetHold)

/-- The counters never exceed what was loaded into them (R37, R38), and during the hold of a WRITE the watchdog is
ahead of the hold by exactly the difference of the two durations (R154, R165). -/
abbrev State.CountersBounded (s : State) : Prop :=
  (s.holdCnt ≤ s.params.holdTicks ∨ s.holdCnt ≤ s.params.resetHoldTicks) ∧ s.wdCnt ≤ s.params.watchdogTicks ∧
  (s.seq = .writeHold → s.wdCnt + s.params.holdTicks = s.params.watchdogTicks + s.holdCnt)

/-- While the engine sends, DATA carries bit TXPOS of the frame image and TXPAR the parity of the data bits already
put there (R28, R84); while a request is pending nothing has been put there yet. -/
abbrev State.SendShape (s : State) : Prop :=
  (s.phase = .rts → s.txPar = false) ∧
  (s.phase = .sending →
    s.hdat = !(txImage s.txByte).getLsbD s.txPos.val ∧ s.txPar = parityOfLow s.txByte (min s.txPos.val 8))

/-- The invariants of R34 and R46 together, with what makes them inductive. -/
abbrev State.Inv (s : State) : Prop :=
  s.params.Ok ∧ s.IndicesInRange ∧ s.PositionsMatchPhase ∧ s.HoldShape ∧ s.WaitShape ∧ s.SuspendShape ∧
  s.ResetShape ∧ s.PendingShape ∧ s.HoldCounterShape ∧ s.ResultFlagsShape ∧ s.DriversShape ∧ s.CountersBounded ∧
  s.SendShape

/-- The exclusive or of the frame bits at positions 1 to `n` (R24, R82). -/
def frameParity (x : Frame) : Nat → Bool
  | 0 => false
  | n + 1 => frameParity x n ^^ x.getLsbD (n + 1)

/-- While the engine receives, RXSHIFT holds the bits sampled so far and nothing above them, its start bit is 0, RXPAR
is the parity of the bits sampled at positions 1 to 9, and after position 9 RXPE says that it is even (R23 to R25). -/
abbrev State.ReceiveShape (s : State) : Prop :=
  s.phase = .receiving →
    s.rxShift.toNat < 2 ^ s.rxPos.val ∧ s.rxShift.getLsbD 0 = false ∧
    s.rxPar = frameParity s.rxShift (s.rxPos.val - 1) ∧ (s.rxPos.val = 10 → s.rxPe = !s.rxPar)

/-- BUF and BUFPE are in canonical form and list the same slots. -/
abbrev State.MemoryOk (s : State) : Prop :=
  Memory.wf s.buf = true ∧ Memory.wf s.bufPe = true ∧ s.buf.map (·.1) = s.bufPe.map (·.1)

/-- Every slot that holds a stored byte has been written since power-on, byte and flag, so that no free value is ever
read (R32). -/
abbrev State.StoredSlotsWritten (s : State) : Prop :=
  ∀ j, j < s.count →
    (Memory.load s.buf ((s.head + j) % s.params.bufSlots)).isSome = true ∧
    (Memory.load s.bufPe ((s.head + j) % s.params.bufSlots)).isSome = true

/-- The host broke its duty in the last step: it issued a reserved command code (R91, U5). The block itself answers
and goes on (R160). -/
def State.hostFault (s : State) : Bool :=
  match s.rsp with
  | some r => r.status = .illegalCommand
  | none => false

/-- A safe outcome of a step: a next state that meets the invariants and in which the host kept its duty. -/
def SafeOutcome : Result → Prop
  | .next t => t.Inv ∧ t.hostFault = false
  | .fault _ => False
  | .refused _ => False

/-- `n` steps of the machine, stopping at the first fault or refusal. -/
def runFor (n : Nat) (s : State) : Result := Host.Core.run Sys2Proof.core n s

/-- The device's edges, one turn for each level it holds on DATA (R94). -/
def edgeTurns (levels : List Bool) : List Turn := levels.map Turn.edge

/-- The eleven levels of `FRAME b` in time order: start 0, the data bits from the least significant, odd parity,
stop 1 (R80, R94). -/
def frameLevels (b : Byte) : List Bool :=
  [false, b.getLsbD 0, b.getLsbD 1, b.getLsbD 2, b.getLsbD 3, b.getLsbD 4, b.getLsbD 5, b.getLsbD 6, b.getLsbD 7,
    oddParityBit b, true]

/-- `n` turns of time. -/
def tickTurns (n : Nat) : List Turn := List.replicate n Turn.tick

/-- The turns that pass during a hold: time and device edges. -/
def Turn.inHold : Turn → Bool
  | .edge _ => true
  | .sample _ _ => false
  | .host => false
  | .urgent => false
  | .tick => true
  | .powerOn => false

/-- How many of the turns are TICKs. -/
def ticksIn (turns : List Turn) : Nat := turns.countP (· = .tick)

/-- The RX_DATA row for data bit `k` of the byte, frame position `k + 1` (R90, R105). -/
def rxDataRow (k : Fin 8) (v : Bool) : Instr :=
  match k.val with
  | 0 => .rxData1 v
  | 1 => .rxData2 v
  | 2 => .rxData3 v
  | 3 => .rxData4 v
  | 4 => .rxData5 v
  | 5 => .rxData6 v
  | 6 => .rxData7 v
  | _ => .rxData8 v

/-- The TX_DATA row for data bit `k` of the byte, position `k` (R90, R121). -/
def txDataRow (k : Fin 8) (v : Bool) : Instr :=
  match k.val with
  | 0 => .txData0 v
  | 1 => .txData1 v
  | 2 => .txData2 v
  | 3 => .txData3 v
  | 4 => .txData4 v
  | 5 => .txData5 v
  | 6 => .txData6 v
  | _ => .txData7 v

/-- The reserved command row of operation code `9 + k` (R86, R91). -/
def reservedRow (k : Fin 7) (arg : Byte) : Instr :=
  match k.val with
  | 0 => .reserved9 arg
  | 1 => .reservedA arg
  | 2 => .reservedB arg
  | 3 => .reservedC arg
  | 4 => .reservedD arg
  | 5 => .reservedE arg
  | _ => .reservedF arg

/-- The context that takes an operation: the engine takes the edge micro-operations, the host the commands and the
sequencer steps, time the TICK (R8, R205). -/
inductive Context where
  | engine | command | sequencer | time
  deriving DecidableEq, Repr

/-- Who takes an operation, read from the format of its row (R205). -/
def contextOf (i : Instr) : Context :=
  match encode i with
  | .edge _ _ => .engine
  | .cmd12 _ => .command
  | .seq3 _ holdZero txDone wdZero => if holdZero || txDone || wdZero then .sequencer else .time

/-- PUSH of several completed bytes, the first first (R141). -/
def State.pushAll (s : State) (bytes : List (Bool × Byte)) : State := bytes.foldl (fun t b => t.push b.1 b.2) s

/-- READ `n` times: the responses in order, and the state after (R153). -/
def readAll : Nat → State → List (Option Response) × State
  | 0, s => ([], s)
  | n + 1, s =>
    match exec (.hostRead 0) s with
    | .next t => let r := readAll n t; (t.rsp :: r.1, r.2)
    | .fault _ => ([], s)
    | .refused _ => ([], s)

end Sys2Proof.Machine
end

