-- ==== Sys2Proof/Certificates/Slice0/Obligations.lean ====
section
/-! DEFINITION. The statements for the provers. Each docstring names the rule of spec/ that the statement formalises. A
statement whose conclusion is an equation with `.next { s with … }` says the operation's whole effect and its whole
frame: every register, every slot and every field it does not name is unchanged. -/

open Sys2Proof Sys2Proof.Machine

/-! ## Encodings -/

/-- R85 to R90, R161 to R165: the decoder reads back every well-formed operation from its encoding, at every value of
every operand. -/
def Obligations.DecodeOfEncodeIsIdentity : Prop :=
  ∀ i : Instr, i.wellFormed = true → decode (encode i) = .ok i

/-- R86, R90, R92: what the decoder reads is well-formed, and encoding it gives the command word or the edge key back;
the one key with a second spelling is 0x30, which R121 hands to TX_DATA (the model's choice, log entry 8). Every command
word decodes. A selector of the sequencer does not come back whole, since the encoder names only the conditions that the
row needs: the code of SEQ comes back, and the selector meets every condition that the encoding names. -/
def Obligations.EncodeOfDecodeGivesTheWordBack : Prop :=
  (∀ (w : OpWord) (i : Instr), decode w = .ok i → i.wellFormed = true) ∧
  (∀ w : CmdWord, ∃ i, decode (.cmd12 w) = .ok i ∧ encode i = .cmd12 w) ∧
  (∀ (key : EdgeKey) (v : Bool) (i : Instr),
    decode (.edge key v) = .ok i → key ≠ 0x30#7 → encode i = .edge key v) ∧
  (∀ v : Bool, decode (.edge 0x30#7 v) = .ok (.txData0 v)) ∧
  (∀ (q : BitVec 3) (holdZero txDone wdZero : Bool) (i : Instr),
    decode (.seq3 q holdZero txDone wdZero) = .ok i →
    ∃ h t w : Bool, encode i = .seq3 q h t w ∧ (h = true → holdZero = true) ∧ (t = true → txDone = true) ∧
      (w = true → wdZero = true))

/-- R85 to R90: words written out from the tables decode to the operations they stand for. -/
def Obligations.WordsOfTheSpecDecode : Prop :=
  decode (.cmd12 0x000#12) = .ok (.hostBegin 0) ∧
  decode (.cmd12 0x3F4#12) = .ok (.hostWrite 0xF4) ∧
  decode (.cmd12 0x402#12) = .ok (.hostFlush 0 true false) ∧
  decode (.cmd12 0x9AB#12) = .ok (.reserved9 0xAB) ∧
  decode (.edge 0x00#7 true) = .ok (.rxStart true) ∧
  decode (.edge 0x18#7 false) = .ok (.rxData8 false) ∧
  decode (.edge 0x1A#7 true) = .ok (.rxStop true) ∧
  decode (.edge 0x20#7 true) = .ok (.txData0 true) ∧
  decode (.edge 0x3A#7 false) = .ok (.txAck false) ∧
  decode (.seq3 4#3 true false false) = .ok .resetDone ∧
  decode (.seq3 3#3 false false true) = .ok .writeTimeout

/-- R90: an edge dispatch key selects a micro-operation exactly if it is in the table (or is 0x30, which R121 covers, log
entry 8); every other key is rejected. -/
def Obligations.EdgeKeysOutsideTheTableAreRejected : Prop :=
  ∀ (key : EdgeKey) (v : Bool), (∃ i, decode (.edge key v) = .ok i) ↔
    key.toNat ∈ [0x00, 0x11, 0x12, 0x13, 0x14, 0x15, 0x16, 0x17, 0x18, 0x19, 0x1A, 0x20, 0x30, 0x31, 0x32, 0x33, 0x34,
      0x35, 0x36, 0x37, 0x38, 0x39, 0x3A]

/-- R80, R82, R84: the frame image is start 0, the data bits from the least significant, the odd-parity bit and stop 1,
and the parity bit makes the count of 1 bits in positions 1 to 9 odd. -/
def Obligations.FrameImageHasOddParity : Prop :=
  ∀ b : Byte,
    (txImage b).getLsbD 0 = false ∧
    (∀ k : Fin 8, (txImage b).getLsbD (k.val + 1) = b.getLsbD k.val) ∧
    (txImage b).getLsbD 10 = true ∧
    ((List.range 9).countP fun i => (txImage b).getLsbD (i + 1)) % 2 = 1

/-- R88, R89, R95: the response word holds the status code in bits 12:9 and the value in bits 8:0; the codes of the six
statuses and of the thirteen labels; and the response and label ports of a step carry them. -/
def Obligations.OutputWordsHoldTheirCodes : Prop :=
  (∀ r : Response, r.word.toNat = r.status.code.toNat * 512 + r.value.toNat) ∧
  Status.ok.code = 0 ∧ Status.bufferEmpty.code = 4 ∧ Status.busBusy.code = 6 ∧ Status.timeout.code = 7 ∧
  Status.unacknowledged.code = 8 ∧ Status.illegalCommand.code = 15 ∧
  Label.malformedStart.code = 1 ∧ Label.parityError.code = 2 ∧ Label.frameError.code = 3 ∧
  Label.bufferEmpty.code = 4 ∧ Label.bufferOverflow.code = 5 ∧ Label.busBusy.code = 6 ∧ Label.timeout.code = 7 ∧
  Label.unacknowledged.code = 8 ∧ Label.rxStart.code = 9 ∧ Label.rxDone.code = 10 ∧ Label.txStart.code = 11 ∧
  Label.txDone.code = 12 ∧ Label.illegalCommand.code = 15 ∧
  ∀ s : State, s.rspWord = s.rsp.map Response.word ∧ s.evCode = s.ev.map Label.code

/-! ## The step -/

/-- R7: when the next turn selects an operation, step is exec of the decoded operation on the state that fetch leaves.
As in every statement about step, the indices are those of slots (R46 item 1); AnIndexOutsideTheBufferFaultsTheState
says what step does otherwise. -/
def Obligations.StepRunsTheDecodedOperation : Prop :=
  ∀ (s t : State) (w : OpWord) (i : Instr),
    s.IndicesInRange → s.fetch = .run w t → decode w = .ok i → step s = exec i t

/-- R90, R100, R108: at a fall of CLOCK with the device holding DATA at `v`, if the edge qualifies, step runs the
micro-operation that the state's own key selects, the turn used up; if IEN = 0 or HCLK = 1 it changes no state and
carries no label. -/
def Obligations.EdgeRunsTheKeyedOperationOrNothing : Prop :=
  ∀ (s : State) (v : Bool) (rest : List Turn), s.IndicesInRange → s.agenda = .edge v :: rest →
    (s.ien = true → s.hclk = false → ∀ i, decode (.edge s.edgeKey v) = .ok i →
      step s = exec i { s with agenda := rest }) ∧
    ((s.ien = false ∨ s.hclk = true) → step s = .next { s with agenda := rest, rsp := none, ev := none })

/-- R35, R40, R100: a sample of the CLOCK pin at port level. It always becomes CLKPREV. If the previous sample was high
and this one is low and the edge qualifies, the step is the micro-operation that the key selects with the device's
level on DATA; otherwise nothing else changes. -/
def Obligations.ClockSampleDetectsAFall : Prop :=
  ∀ (s : State) (devClk devDat : Bool) (rest : List Turn),
    s.IndicesInRange → s.agenda = .sample devClk devDat :: rest →
    (s.ien = true → s.hclk = false → s.clkPrev = true → devClk = false →
      ∀ i, decode (.edge s.edgeKey devDat) = .ok i →
        step s = exec i { s with agenda := rest, clkPrev := false }) ∧
    ((s.ien = false ∨ s.hclk = true ∨ s.clkPrev = false ∨ devClk = true) →
      step s = .next { s with agenda := rest, clkPrev := !s.hclk && devClk, rsp := none, ev := none })

/-- R150: the command word on offer is decoded and run when SEQ = READY, and is then no longer on offer; while SEQ is
not READY it waits, and nothing changes. -/
def Obligations.OfferedCommandRunsOrWaits : Prop :=
  ∀ (s : State) (w : CmdWord) (ws : List CmdWord) (rest : List Turn),
    s.IndicesInRange → s.agenda = .host :: rest → s.cmds = w :: ws →
    (s.seq = .ready → ∀ i, decode (.cmd12 w) = .ok i → step s = exec i { s with agenda := rest, cmds := ws }) ∧
    (s.seq ≠ .ready → step s = .next { s with agenda := rest, rsp := none, ev := none })

/-- R165, R166: TICK is not enabled while an urgent step is. With a turn of time next, the urgent step is taken first; with
none enabled the turn is one TICK. That the turn of time then stays for the steps after is the model's own choice (log
entry 3, DESIGN CHOICE), and so is the form in which exec shows that TICK is not enabled, a refusal by the name
notSelected (log entry 5, DESIGN CHOICE). -/
def Obligations.UrgentStepComesBeforeTick : Prop :=
  ∀ (s : State) (rest : List Turn), s.IndicesInRange → s.agenda = .tick :: rest →
    (s.seq = .rtsHold → s.holdCnt = 0 → step s = exec .holdDoneRts s) ∧
    (s.seq = .writeHold → s.holdCnt = 0 → step s = exec .holdDoneWrite s) ∧
    (s.seq = .resetHold → s.holdCnt = 0 → step s = exec .resetDone s) ∧
    (s.seq = .writeWait → s.txDone = true → step s = exec .writeDone s) ∧
    (s.seq = .writeWait → s.txDone = false → s.wdCnt = 0 → step s = exec .writeTimeout s) ∧
    (s.urgentEnabled = false → step s = exec (.tick s.seq.code) { s with agenda := rest }) ∧
    (s.urgentEnabled = true → ∀ q, exec (.tick q) s = .refused .notSelected)

/-- R166: at most one of the urgent steps is enabled in any state, where "enabled" is that exec takes it. -/
def Obligations.AtMostOneUrgentStepIsEnabled : Prop :=
  ∀ (s t u : State) (i j : Instr),
    i ∈ [Instr.holdDoneRts, .holdDoneWrite, .resetDone, .writeDone, .writeTimeout] →
    j ∈ [Instr.holdDoneRts, .holdDoneWrite, .resetDone, .writeDone, .writeTimeout] →
    exec i s = .next t → exec j s = .next u → i = j

/-- R203, the port-level order, which the model takes when no turn is given (log entry 3): an urgent step, then an
offered command, then TICK. -/
def Obligations.PortOrderWithoutATurn : Prop :=
  ∀ s : State, s.IndicesInRange → s.agenda = [] →
    (∀ i ∈ [Instr.holdDoneRts, .holdDoneWrite, .resetDone, .writeDone, .writeTimeout], ∀ t,
      exec i s = .next t → step s = .next t) ∧
    (s.urgentEnabled = false → s.seq = .ready → ∀ w ws, s.cmds = w :: ws → ∀ i, decode (.cmd12 w) = .ok i →
      step s = exec i { s with cmds := ws }) ∧
    (s.urgentEnabled = false → (s.cmds = [] ∨ s.seq ≠ .ready) → step s = exec (.tick s.seq.code) s)

/-- R47, R220: asserting `rst_n` gives every register its value in the power-on column. -/
def Obligations.PowerOnResetsEveryRegister : Prop :=
  ∀ (s : State) (rest : List Turn), s.agenda = .powerOn :: rest →
    ∃ t, step s = .next t ∧
      t.phase = .idle ∧ t.rxShift = 0 ∧ t.rxPar = false ∧ t.rxPe = false ∧ t.rxPos = 0 ∧ t.txByte = 0 ∧
      t.txPar = false ∧ t.txPos = 0 ∧ t.txDone = false ∧ t.txNak = false ∧ t.ien = false ∧ t.head = 0 ∧ t.tail = 0 ∧
      t.hclk = false ∧ t.hdat = false ∧ t.seq = .ready ∧ t.holdCnt = 0 ∧ t.wdCnt = 0 ∧ t.clkPrev = true

/-- R47, R220, R224: the state after reset has the power-on values, for every choice of the parameters. -/
def Obligations.ResetStateHasPowerOnValues : Prop :=
  (∃ p, State.reset = State.atPowerOn p 0 [] []) ∧
  ∀ (p : Params) (epoch : Nat) (agenda : List Turn) (cmds : List CmdWord),
    let s := State.atPowerOn p epoch agenda cmds
    s.phase = .idle ∧ s.rxShift = 0 ∧ s.rxPar = false ∧ s.rxPe = false ∧ s.rxPos = 0 ∧ s.txByte = 0 ∧
    s.txPar = false ∧ s.txPos = 0 ∧ s.txDone = false ∧ s.txNak = false ∧ s.ien = false ∧ s.head = 0 ∧ s.tail = 0 ∧
    s.hclk = false ∧ s.hdat = false ∧ s.seq = .ready ∧ s.holdCnt = 0 ∧ s.wdCnt = 0 ∧ s.clkPrev = true

/-! ## The receive path -/

/-- R104: RX_START. -/
def Obligations.RxStartSamplesTheStartBit : Prop :=
  ∀ (v : Bool) (s : State), s.ien = true → s.hclk = false → s.phase = .idle →
    ((v && !s.hdat) = false →
      exec (.rxStart v) s = .next { s with
        rxShift := 0, rxPar := false, rxPe := false, rxPos := 1, phase := .receiving,
        rsp := none, ev := some .rxStart }) ∧
    ((v && !s.hdat) = true →
      exec (.rxStart v) s = .next { s with
        rxShift := 0, rxPar := false, rxPe := false, rxPos := 0, phase := .idle,
        rsp := none, ev := some .malformedStart })

/-- R105: RX_DATA, for each of its eight rows. -/
def Obligations.RxDataSamplesOneDataBit : Prop :=
  ∀ (k : Fin 8) (v : Bool) (s : State), s.ien = true → s.hclk = false → s.phase = .receiving →
    s.rxPos.val = k.val + 1 →
    ∃ shifted : Frame,
      (∀ j, j < 11 → shifted.getLsbD j = if j = k.val + 1 then (v && !s.hdat) else s.rxShift.getLsbD j) ∧
      exec (rxDataRow k v) s = .next { s with
        rxShift := shifted, rxPar := s.rxPar ^^ (v && !s.hdat), rxPos := s.rxPos + 1, rsp := none, ev := none }

/-- R106: RX_PARITY. -/
def Obligations.RxParityChecksTheParityBit : Prop :=
  ∀ (v : Bool) (s : State), s.ien = true → s.hclk = false → s.phase = .receiving → s.rxPos = 9 →
    ∃ shifted : Frame,
      (∀ j, j < 11 → shifted.getLsbD j = if j = 9 then (v && !s.hdat) else s.rxShift.getLsbD j) ∧
      exec (.rxParity v) s = .next { s with
        rxShift := shifted, rxPar := s.rxPar ^^ (v && !s.hdat), rxPe := !(s.rxPar ^^ (v && !s.hdat)), rxPos := 10,
        rsp := none, ev := if s.rxPar ^^ (v && !s.hdat) then none else some .parityError }

/-- R107, R193: RX_STOP with an invalid stop bit. The frame is discarded and nothing is stored. -/
def Obligations.RxStopDiscardsOnFrameError : Prop :=
  ∀ (v : Bool) (s : State), s.ien = true → s.hclk = false → s.phase = .receiving → s.rxPos = 10 →
    (v && !s.hdat) = false →
    ∃ shifted : Frame,
      (∀ j, j < 11 → shifted.getLsbD j = if j = 10 then false else s.rxShift.getLsbD j) ∧
      exec (.rxStop v) s = .next { s with
        rxShift := shifted, rxPos := 0, phase := .idle, rsp := none, ev := some .frameError }

/-- R107, R141: RX_STOP with a valid stop bit and a slot free. The byte RXSHIFT[8:1] and the flag RXPE are stored at TAIL
and TAIL moves on; every other slot reads as before. -/
def Obligations.RxStopStoresTheByte : Prop :=
  ∀ (v : Bool) (s : State), s.ien = true → s.hclk = false → s.phase = .receiving → s.rxPos = 10 →
    (v && !s.hdat) = true → s.IndicesInRange → (s.tail + 1) % s.params.bufSlots ≠ s.head →
    ∃ (shifted : Frame) (t : State),
      (∀ j, j < 11 → shifted.getLsbD j = if j = 10 then true else s.rxShift.getLsbD j) ∧
      exec (.rxStop v) s = .next t ∧
      t = { s with
        rxShift := shifted, rxPos := 0, phase := .idle, tail := (s.tail + 1) % s.params.bufSlots,
        buf := t.buf, bufPe := t.bufPe, rsp := none, ev := some .rxDone } ∧
      t.bufByte s.tail = s.rxShift.extractLsb' 1 8 ∧ t.bufFlag s.tail = s.rxPe ∧
      ∀ a, a ≠ s.tail → t.bufByte a = s.bufByte a ∧ t.bufFlag a = s.bufFlag a

/-- R141, R195: RX_STOP with a valid stop bit and the buffer full. The new byte is dropped and the buffer is unchanged. -/
def Obligations.RxStopDropsOnOverflow : Prop :=
  ∀ (v : Bool) (s : State), s.ien = true → s.hclk = false → s.phase = .receiving → s.rxPos = 10 →
    (v && !s.hdat) = true → s.IndicesInRange → (s.tail + 1) % s.params.bufSlots = s.head →
    ∃ shifted : Frame,
      (∀ j, j < 11 → shifted.getLsbD j = if j = 10 then true else s.rxShift.getLsbD j) ∧
      exec (.rxStop v) s = .next { s with
        rxShift := shifted, rxPos := 0, phase := .idle, rsp := none, ev := some .bufferOverflow }

/-- R109: for every byte b, the eleven edges of its frame, from IDLE with the buffer not full, end in IDLE with b stored
at the old TAIL, its flag clear, and the count larger by exactly one. -/
def Obligations.EveryByteIsReceived : Prop :=
  ∀ (b : Byte) (s : State) (rest : List Turn),
    s.agenda = edgeTurns (frameLevels b) ++ rest → s.ien = true → s.hclk = false → s.hdat = false →
    s.phase = .idle → s.rxPos = 0 → s.IndicesInRange → (s.tail + 1) % s.params.bufSlots ≠ s.head →
    ∃ t, runFor 11 s = .next t ∧ t.phase = .idle ∧ t.agenda = rest ∧
      t.bufByte s.tail = b ∧ t.bufFlag s.tail = false ∧ t.count = s.count + 1 ∧ t.head = s.head ∧
      t.ev = some .rxDone ∧ ∀ a, a ≠ s.tail → t.bufByte a = s.bufByte a ∧ t.bufFlag a = s.bufFlag a

/-! ## The transmit path -/

/-- R121: TX_DATA, for each of its eight rows; the first is taken in PHASE = RTS and carries the label TxStart. -/
def Obligations.TxDataPresentsOneDataBit : Prop :=
  ∀ (k : Fin 8) (v : Bool) (s : State), s.ien = true → s.hclk = false → s.txPos.val = k.val →
    (s.phase = .sending ∨ (s.phase = .rts ∧ k.val = 0)) →
    exec (txDataRow k v) s = .next { s with
      phase := .sending, hdat := !s.txByte.getLsbD k.val, txPar := s.txPar ^^ s.txByte.getLsbD k.val,
      txPos := s.txPos + 1, rsp := none, ev := if k.val = 0 then some .txStart else none }

/-- R122: TX_PARITY. -/
def Obligations.TxParityPresentsTheParityBit : Prop :=
  ∀ (v : Bool) (s : State), s.ien = true → s.hclk = false → s.phase = .sending → s.txPos = 8 →
    exec (.txParity v) s = .next { s with hdat := s.txPar, txPos := 9, rsp := none, ev := none }

/-- R123: TX_STOP. -/
def Obligations.TxStopReleasesData : Prop :=
  ∀ (v : Bool) (s : State), s.ien = true → s.hclk = false → s.phase = .sending → s.txPos = 9 →
    exec (.txStop v) s = .next { s with hdat := false, txPos := 10, rsp := none, ev := none }

/-- R124: TX_ACK. -/
def Obligations.TxAckRecordsTheAcknowledgment : Prop :=
  ∀ (v : Bool) (s : State), s.ien = true → s.hclk = false → s.phase = .sending → s.txPos = 10 →
    exec (.txAck v) s = .next { s with
      txDone := true, txNak := v && !s.hdat, txPos := 0, phase := .idle,
      rsp := none, ev := if v && !s.hdat then some .unacknowledged else some .txDone }

/-- R125: eleven qualifying edges complete a send frame, and the level the host presents on DATA before the first and
after each of the first ten is bit 0 to 10 of TXIMG, whatever the device does to DATA meanwhile; the eleventh records
the device's acknowledgment, and a WRITE that was waiting then completes with OK if there was one. -/
def Obligations.EveryByteIsSent : Prop :=
  ∀ (s : State) (levels : List Bool) (ack : Bool) (rest : List Turn),
    levels.length = 10 → s.agenda = edgeTurns (levels ++ [ack]) ++ rest →
    s.IndicesInRange → s.phase = .rts → (s.seq = .ready ∨ s.seq = .writeWait) → s.ien = true → s.hclk = false → s.hdat = true →
    s.txPos = 0 → s.txPar = false →
    (∀ n, n ≤ 10 → ∃ t, runFor n s = .next t ∧ t.hdat = !(txImage s.txByte).getLsbD n ∧ t.txByte = s.txByte) ∧
    ∃ t, runFor 11 s = .next t ∧ t.phase = .idle ∧ t.txDone = true ∧ t.txNak = ack ∧ t.hdat = false ∧
      t.hclk = false ∧ t.seq = s.seq ∧ t.agenda = rest ∧
      t.ev = some (if ack then .unacknowledged else .txDone) ∧
      (s.seq = .writeWait → ack = false →
        ∃ u, exec .writeDone t = .next u ∧ u.seq = .ready ∧ u.rsp = some { status := .ok, value := 0 })

/-! ## The buffer -/

/-- R145: the buffer never reports more bytes than CAPACITY; and from an empty buffer, N stored bytes with N at most
CAPACITY are counted, are returned by N READs in the same order with their flags, and leave the buffer empty. -/
def Obligations.BufferIsFirstInFirstOut : Prop :=
  (∀ s : State, s.IndicesInRange → s.count ≤ s.params.capacity) ∧
  ∀ (s : State) (bytes : List (Bool × Byte)),
    s.IndicesInRange → s.head = s.tail → s.seq = .ready → bytes.length ≤ s.params.capacity →
    (s.pushAll bytes).count = bytes.length ∧
    ∃ t, readAll bytes.length (s.pushAll bytes) =
        (bytes.map fun b => some { status := .ok, value := BitVec.ofBool b.1 ++ b.2 }, t) ∧
      t.head = t.tail ∧ t.head = (s.head + bytes.length) % s.params.bufSlots

/-! ## The host commands -/

/-- R151: BEGIN, and that it is idempotent. -/
def Obligations.BeginInitialisesTheBlock : Prop :=
  ∀ (arg : Byte) (s : State), s.seq = .ready →
    ∃ t, exec (.hostBegin arg) s = .next t ∧
      t = { s with
        phase := .idle, rxShift := 0, rxPar := false, rxPe := false, rxPos := 0, txPar := false, txPos := 0,
        txDone := false, txNak := false, head := 0, tail := 0, hclk := false, hdat := false, ien := true,
        rsp := some { status := .ok, value := 0 }, ev := none } ∧
      exec (.hostBegin arg) t = .next t

/-- R143, R152: AVAILABLE answers with COUNT and changes nothing. COUNT is TAIL - HEAD, plus BUF_SLOTS when the stored
run wraps; it is 0 exactly when the indices are equal and never exceeds CAPACITY. -/
def Obligations.AvailableReportsTheCount : Prop :=
  ∀ (arg : Byte) (s : State), s.seq = .ready → s.params.Ok → s.IndicesInRange →
    ∃ value : BitVec 9,
      value.toNat = (if s.head ≤ s.tail then s.tail - s.head else s.tail + s.params.bufSlots - s.head) ∧
      value.toNat ≤ s.params.capacity ∧ (value.toNat = 0 ↔ s.head = s.tail) ∧
      exec (.hostAvailable arg) s = .next { s with rsp := some { status := .ok, value := value }, ev := none }

/-- R142, R153, R194: READ takes the oldest byte, its parity-error flag as bit 8 of the value; of an empty buffer it answers
BufferEmpty and changes nothing. Which label that branch carries is in RefusedCommandsCarryTheirLabel. -/
def Obligations.ReadTakesTheOldestByte : Prop :=
  ∀ (arg : Byte) (s : State), s.seq = .ready → s.IndicesInRange →
    (s.head ≠ s.tail →
      exec (.hostRead arg) s = .next { s with
        head := (s.head + 1) % s.params.bufSlots,
        rsp := some { status := .ok, value := BitVec.ofBool (s.bufFlag s.head) ++ s.bufByte s.head }, ev := none }) ∧
    (s.head = s.tail →
      ∃ l, exec (.hostRead arg) s = .next { s with rsp := some { status := .bufferEmpty, value := 0 }, ev := l })

/-- R154: WRITE. From IDLE the byte is latched, the request is pending, CLOCK is pulled low, both counters are loaded and
no response is given yet; in any other PHASE it answers BusBusy and changes nothing. -/
def Obligations.WriteStartsARequest : Prop :=
  ∀ (arg : Byte) (s : State), s.seq = .ready →
    (s.phase = .idle →
      exec (.hostWrite arg) s = .next { s with
        txByte := arg, phase := .rts, txPos := 0, txPar := false, txDone := false, txNak := false, hclk := true,
        holdCnt := s.params.holdTicks, wdCnt := s.params.watchdogTicks, seq := .writeHold, rsp := none, ev := none }) ∧
    (s.phase ≠ .idle →
      ∃ l, exec (.hostWrite arg) s = .next { s with rsp := some { status := .busBusy, value := 0 }, ev := l })

/-- R159: RTS, as WRITE, but TXBYTE and the watchdog are untouched. -/
def Obligations.RtsStartsARequest : Prop :=
  ∀ (arg : Byte) (s : State), s.seq = .ready →
    (s.phase = .idle →
      exec (.hostRts arg) s = .next { s with
        phase := .rts, txPos := 0, txPar := false, txDone := false, txNak := false, hclk := true,
        holdCnt := s.params.holdTicks, seq := .rtsHold, rsp := none, ev := none }) ∧
    (s.phase ≠ .idle →
      ∃ l, exec (.hostRts arg) s = .next { s with rsp := some { status := .busBusy, value := 0 }, ev := l })

/-- R155: FLUSH. Bit 0 of the selector empties the buffer, bit 1 clears the Transmit Register and the result flags
outside a send; selector 0 does nothing. -/
def Obligations.FlushClearsTheSelectedSides : Prop :=
  ∀ (ignored : BitVec 6) (tx rx : Bool) (s : State), s.seq = .ready →
    let clearsTx := tx = true ∧ s.phase ≠ .rts ∧ s.phase ≠ .sending
    exec (.hostFlush ignored tx rx) s = .next { s with
      head := if rx then 0 else s.head,
      tail := if rx then 0 else s.tail,
      txByte := if clearsTx then 0 else s.txByte,
      txDone := if clearsTx then false else s.txDone,
      txNak := if clearsTx then false else s.txNak,
      rsp := some { status := .ok, value := 0 }, ev := none }

/-- R156: RESET, the acceptance step: accepted in every PHASE, both lines pulled low, IEN, TXBYTE, WDCNT and the slots
unchanged. -/
def Obligations.ResetPullsBothLinesLow : Prop :=
  ∀ (arg : Byte) (s : State), s.seq = .ready →
    exec (.hostReset arg) s = .next { s with
      phase := .idle, rxShift := 0, rxPar := false, rxPe := false, rxPos := 0, txPar := false, txPos := 0,
      txDone := false, txNak := false, head := 0, tail := 0, hclk := true, hdat := true,
      holdCnt := s.params.resetHoldTicks, seq := .resetHold, rsp := none, ev := none }

/-- R157: SUSPEND from IDLE pulls CLOCK low and keeps the buffer; in SUSPENDED it changes nothing; with a frame in progress
or a request pending it answers BusBusy and changes nothing. -/
def Obligations.SuspendPullsClockLow : Prop :=
  ∀ (arg : Byte) (s : State), s.seq = .ready →
    (s.phase = .idle →
      exec (.hostSuspend arg) s = .next { s with
        hclk := true, phase := .suspended, rsp := some { status := .ok, value := 0 }, ev := none }) ∧
    (s.phase = .suspended →
      exec (.hostSuspend arg) s = .next { s with rsp := some { status := .ok, value := 0 }, ev := none }) ∧
    ((s.phase = .receiving ∨ s.phase = .rts ∨ s.phase = .sending) →
      ∃ l, exec (.hostSuspend arg) s = .next { s with rsp := some { status := .busBusy, value := 0 }, ev := l })

/-- R158: RESUME releases CLOCK from SUSPENDED and changes nothing in any other PHASE. -/
def Obligations.ResumeReleasesClock : Prop :=
  ∀ (arg : Byte) (s : State), s.seq = .ready →
    (s.phase = .suspended →
      exec (.hostResume arg) s = .next { s with
        hclk := false, phase := .idle, rsp := some { status := .ok, value := 0 }, ev := none }) ∧
    (s.phase ≠ .suspended →
      exec (.hostResume arg) s = .next { s with rsp := some { status := .ok, value := 0 }, ev := none })

/-- R160, R199: a reserved command code is answered with IllegalCommand, status 15, and changes nothing, for each of the
seven codes. -/
def Obligations.ReservedCommandsChangeNothing : Prop :=
  ∀ (k : Fin 7) (arg : Byte) (s : State), s.seq = .ready →
    ∃ l, exec (reservedRow k arg) s = .next { s with rsp := some { status := .illegalCommand, value := 0 }, ev := l }

/-- Log entry 6, the model's reading of R10, R89 and R198 (DEDUCED): a step that answers an error status carries the label
of that error, but for WRITE_DONE, whose Unacknowledged was labelled by TX_ACK; a step that answers OK carries none. -/
def Obligations.RefusedCommandsCarryTheirLabel : Prop :=
  ∀ (i : Instr) (s t : State) (r : Response), exec i s = .next t → t.rsp = some r →
    t.ev = if i = .writeDone then none else r.status.label

/-! ## The sequencer and time -/

/-- R161, R162: the end of a hold. HOLD_DONE puts the start bit on DATA and releases CLOCK; an RTS command is then
complete, a WRITE goes on to wait. RESET_DONE releases both lines and completes the RESET. -/
def Obligations.HoldEndsByReleasingClock : Prop :=
  ∀ s : State, s.holdCnt = 0 →
    (s.seq = .rtsHold →
      exec .holdDoneRts s = .next { s with
        hdat := true, hclk := false, seq := .ready, rsp := some { status := .ok, value := 0 }, ev := none }) ∧
    (s.seq = .writeHold →
      exec .holdDoneWrite s = .next { s with
        hdat := true, hclk := false, seq := .writeWait, rsp := none, ev := none }) ∧
    (s.seq = .resetHold →
      exec .resetDone s = .next { s with
        hclk := false, hdat := false, seq := .ready, rsp := some { status := .ok, value := 0 }, ev := none })

/-- R163: WRITE_DONE answers OK or Unacknowledged by TXNAK, whatever the watchdog says, and WRITE_TIMEOUT is not taken in
such a state. That WRITE_DONE carries no label is the model's reading of R198 (log entry 6). -/
def Obligations.WriteDoneReportsTheOutcome : Prop :=
  (∀ s : State, s.seq = .writeWait → s.txDone = true →
    ∃ l, exec .writeDone s = .next { s with
      seq := .ready, rsp := some { status := if s.txNak then .unacknowledged else .ok, value := 0 }, ev := l }) ∧
  ∀ s t : State, s.txDone = true → exec .writeTimeout s ≠ .next t

/-- R164, R197: WRITE_TIMEOUT releases both lines, abandons the send and answers Timeout. -/
def Obligations.WriteTimeoutAbandonsTheSend : Prop :=
  ∀ s : State, s.seq = .writeWait → s.txDone = false → s.wdCnt = 0 →
    ∃ l, exec .writeTimeout s = .next { s with
      hdat := false, hclk := false, phase := .idle, txPos := 0, txPar := false, seq := .ready,
      rsp := some { status := .timeout, value := 0 }, ev := l }

/-- R165: TICK, in every state in which no urgent step is enabled. -/
def Obligations.TickCountsDown : Prop :=
  ∀ s : State,
    ¬((s.seq = .rtsHold ∨ s.seq = .writeHold ∨ s.seq = .resetHold) ∧ s.holdCnt = 0) →
    ¬(s.seq = .writeWait ∧ (s.txDone = true ∨ s.wdCnt = 0)) →
    exec (.tick s.seq.code) s = .next { s with
      holdCnt := if s.seq = .rtsHold ∨ s.seq = .writeHold ∨ s.seq = .resetHold then s.holdCnt - 1 else s.holdCnt,
      wdCnt := if (s.seq = .writeHold ∨ s.seq = .writeWait) ∧ 0 < s.wdCnt then s.wdCnt - 1 else s.wdCnt,
      rsp := none, ev := none }

/-- R161, R162, R166: a hold lasts exactly the loaded number of ticks: both lines keep their levels and no response is
given during that many TICKs, and then the completing step releases CLOCK. RTS and RESET are complete there and answer;
a WRITE goes on to wait, with its watchdog, which has counted the same ticks. -/
def Obligations.HoldLastsExactlyItsTicks : Prop :=
  ∀ (s : State) (rest : List Turn), s.IndicesInRange →
    (s.seq = .rtsHold ∨ s.seq = .writeHold ∨ s.seq = .resetHold) →
    s.agenda = tickTurns s.holdCnt ++ .urgent :: rest →
    (∀ n, 0 < n → n ≤ s.holdCnt → ∃ t, runFor n s = .next t ∧ t.seq = s.seq ∧ t.hclk = s.hclk ∧ t.hdat = s.hdat ∧
      t.rsp = none ∧ t.holdCnt + n = s.holdCnt) ∧
    ∃ t, runFor (s.holdCnt + 1) s = .next t ∧ t.hclk = false ∧ t.agenda = rest ∧
      (s.seq = .rtsHold → t.seq = .ready ∧ t.hdat = true ∧ t.rsp = some { status := .ok, value := 0 }) ∧
      (s.seq = .resetHold → t.seq = .ready ∧ t.hdat = false ∧ t.rsp = some { status := .ok, value := 0 }) ∧
      (s.seq = .writeHold → t.seq = .writeWait ∧ t.hdat = true ∧ t.rsp = none ∧ t.wdCnt = s.wdCnt - s.holdCnt)

/-- R164, R166: a WRITE to a device that never clocks ends in Timeout exactly WATCHDOG_TICKS ticks after its acceptance,
not earlier and not later. The steps are the acceptance, the ticks, HOLD_DONE among them, and WRITE_TIMEOUT. -/
def Obligations.UnansweredWriteTimesOutExactly : Prop :=
  ∀ (s : State) (b : Byte) (rest : List Turn),
    s.params.Ok → s.IndicesInRange → s.seq = .ready → s.phase = .idle →
    s.agenda = .host :: (tickTurns s.params.watchdogTicks ++ .urgent :: rest) →
    s.cmds = [(0x3#4 ++ b : CmdWord)] →
    (∀ n, 0 < n → n ≤ s.params.watchdogTicks + 2 → ∃ t, runFor n s = .next t ∧ t.rsp = none ∧ t.seq ≠ .ready) ∧
    ∃ t, runFor (s.params.watchdogTicks + 3) s = .next t ∧
      t.rsp = some { status := .timeout, value := 0 } ∧ t.seq = .ready ∧ t.phase = .idle ∧ t.hclk = false ∧
      t.hdat = false ∧ t.txByte = b ∧ t.txDone = false ∧ t.agenda = rest

/-- R223: RESET, its hold, and then BEGIN leave Bus State idle and the buffer empty, from every state that meets the
invariants with SEQ = READY, whatever edges the device produces during the hold and after it. -/
def Obligations.ResetThenBeginIsClean : Prop :=
  ∀ (s : State) (during : List Turn) (after : List Bool) (rest : List Turn),
    s.Inv → s.seq = .ready → (∀ x ∈ during, x.inHold = true) → ticksIn during = s.params.resetHoldTicks →
    s.agenda = .host :: (during ++ .urgent :: (edgeTurns after ++ .host :: rest)) →
    s.cmds = [0x500#12, 0x000#12] →
    ∃ t, runFor (during.length + after.length + 3) s = .next t ∧
      t.phase = .idle ∧ t.head = 0 ∧ t.tail = 0 ∧ t.rxPos = 0 ∧ t.txPos = 0 ∧ t.hclk = false ∧ t.hdat = false ∧
      t.ien = true ∧ t.seq = .ready ∧ t.agenda = rest

/-- The model's own guards on exec (log entries 5 and 7, DESIGN CHOICE), with the condition that fails. The one fault is
noSuchSlot, with an index outside the buffer (R48). The one refusal is notSelected: never of a host command; of an edge
micro-operation only if the edge qualifies and the state's key selects another row (R90); of a step of the sequencer or of
time only if SEQ and the conditions of R161 to R165 select another row. And a row that is not selected is refused: every
such step of the sequencer or of time, and every edge micro-operation on a qualifying edge where the positions are those
of the phase (R46). -/
def Obligations.StopsHaveTheirNames : Prop :=
  ∀ (i : Instr) (s : State),
    (∀ f, exec i s = .fault f → f = .noSuchSlot ∧ ¬ s.IndicesInRange) ∧
    (∀ r, exec i s = .refused r → r = .notSelected ∧ contextOf i ≠ .command ∧
      (contextOf i = .engine → s.ien = true ∧ s.hclk = false ∧ ∀ v, decode (.edge s.edgeKey v) ≠ .ok i) ∧
      (contextOf i = .sequencer ∨ contextOf i = .time → decode s.seqWord ≠ .ok i)) ∧
    (contextOf i = .engine → s.ien = true → s.hclk = false → s.PositionsMatchPhase →
      (∀ v, decode (.edge s.edgeKey v) ≠ .ok i) → exec i s = .refused .notSelected) ∧
    (contextOf i = .sequencer ∨ contextOf i = .time → decode s.seqWord ≠ .ok i →
      exec i s = .refused .notSelected)

/-! ## Whole-machine rules -/

/-- R34, R46: for every choice of the parameters in range (U3), the state after power-on meets the invariants, whatever
the device and the host then do; its memory is in canonical form (the form is log entry 2, DESIGN CHOICE). State.reset is
such a state, with parameters that are in range; which ones is log entry 1 (DESIGN CHOICE). -/
def Obligations.InvariantsHoldAtReset : Prop :=
  (∀ (p : Params) (epoch : Nat) (agenda : List Turn) (cmds : List CmdWord), p.Ok →
    let s := State.atPowerOn p epoch agenda cmds
    s.Inv ∧ s.ReceiveShape ∧ s.MemoryOk ∧ s.StoredSlotsWritten) ∧
  (∃ p, p.Ok ∧ State.reset = State.atPowerOn p 0 [] []) ∧
  State.reset.Inv ∧ State.reset.ReceiveShape ∧ State.reset.MemoryOk ∧ State.reset.StoredSlotsWritten

/-- R34, R46, R84: every step keeps the invariants, from every state that meets them. -/
def Obligations.EveryStepKeepsTheInvariants : Prop :=
  ∀ s t : State, s.Inv → step s = .next t → t.Inv

/-- R23 to R25: every step keeps the shape of the frame being received. -/
def Obligations.EveryStepKeepsTheReceivedFrame : Prop :=
  ∀ s t : State, s.Inv → s.ReceiveShape → step s = .next t → t.ReceiveShape

/-- Every step keeps the buffer memory, BUF and BUFPE of R32, in the model's canonical form: indices strictly rising, and
the same slots listed in both. That form is the model's own (log entry 2, DESIGN CHOICE), not the spec's. -/
def Obligations.EveryStepKeepsTheMemoryCanonical : Prop :=
  ∀ s t : State, s.MemoryOk → step s = .next t → t.MemoryOk

/-- R32: no rule reads a slot that has not been written: every stored slot has been, and every step keeps that. -/
def Obligations.EveryStepKeepsStoredSlotsWritten : Prop :=
  ∀ s t : State, s.Inv → s.StoredSlotsWritten → step s = .next t → t.StoredSlotsWritten

/-- R102, R200, R230: no step is unpredictable and nothing is fatal: from every state that meets the invariants the step
answers a next state, whatever turn is next. -/
def Obligations.NothingStopsTheBlock : Prop :=
  ∀ s : State, s.Inv → ∃ t, step s = .next t

/-- R207: every change of PHASE is in the transition table, with the event and the condition of its row. -/
def Obligations.PhaseChangesAreInTheTable : Prop :=
  ∀ (i : Instr) (s t : State), s.Inv → exec i s = .next t → t.phase ≠ s.phase →
    (s.phase = .idle ∧ t.phase = .receiving ∧ t.rxPos = 1 ∧ ∃ v, i = .rxStart v ∧ (v && !s.hdat) = false) ∨
    (s.phase = .receiving ∧ s.rxPos = 10 ∧ t.phase = .idle ∧ ∃ v, i = .rxStop v) ∨
    (s.phase = .idle ∧ t.phase = .rts ∧ t.txPos = 0 ∧ ∃ a, i = .hostRts a ∨ i = .hostWrite a) ∨
    (s.phase = .rts ∧ t.phase = .sending ∧ t.txPos = 1 ∧ ∃ v, i = .txData0 v) ∨
    (s.phase = .sending ∧ s.txPos = 10 ∧ t.phase = .idle ∧ t.txDone = true ∧ ∃ v, i = .txAck v) ∨
    ((s.phase = .rts ∨ s.phase = .sending) ∧ t.phase = .idle ∧ i = .writeTimeout) ∨
    (s.phase = .idle ∧ t.phase = .suspended ∧ ∃ a, i = .hostSuspend a) ∨
    (s.phase = .suspended ∧ t.phase = .idle ∧ ∃ a, i = .hostResume a) ∨
    (t.phase = .idle ∧ ∃ a, i = .hostBegin a ∨ i = .hostReset a)

/-- R205: which context writes which register. The engine never writes TXBYTE, HEAD, HCLK, IEN, SEQ or a counter; no other
context writes a slot, advances TAIL, writes RXSHIFT, RXPAR, RXPE or RXPOS but to clear them, or sets TXDONE or TXNAK;
TICK writes counters only. -/
def Obligations.ContextsWriteTheirOwnRegisters : Prop :=
  ∀ (i : Instr) (s t : State), exec i s = .next t →
    (contextOf i = .engine →
      t.txByte = s.txByte ∧ t.head = s.head ∧ t.hclk = s.hclk ∧ t.ien = s.ien ∧ t.seq = s.seq ∧
      t.holdCnt = s.holdCnt ∧ t.wdCnt = s.wdCnt) ∧
    (contextOf i ≠ .engine →
      t.buf = s.buf ∧ t.bufPe = s.bufPe ∧ (t.tail = s.tail ∨ t.tail = 0) ∧
      (t.rxShift = s.rxShift ∨ t.rxShift = 0) ∧ (t.rxPar = true → s.rxPar = true) ∧
      (t.rxPe = true → s.rxPe = true) ∧ (t.rxPos = s.rxPos ∨ t.rxPos = 0) ∧
      (t.txDone = true → s.txDone = true) ∧ (t.txNak = true → s.txNak = true)) ∧
    (contextOf i = .time →
      t = { s with holdCnt := t.holdCnt, wdCnt := t.wdCnt, rsp := none, ev := none }) ∧
    (t.clkPrev = s.clkPrev ∧ t.params = s.params ∧ t.epoch = s.epoch ∧ t.agenda = s.agenda ∧ t.cmds = s.cmds) ∧
    (t.ien ≠ s.ien → t.ien = true ∧ ∃ a, i = .hostBegin a)

/-- R241: the Transmit Register is not overwritten while a send is in flight. -/
def Obligations.TransmitRegisterIsSafeInFlight : Prop :=
  ∀ s t : State, (s.phase = .rts ∨ s.phase = .sending) → (∀ rest, s.agenda ≠ .powerOn :: rest) →
    step s = .next t → t.txByte = s.txByte

/-- R212: nothing but RESUME, BEGIN and RESET leaves the wait state (power-on apart), and a step that stays in it keeps the
lines, both frame positions and every slot. -/
def Obligations.OnlyThreeCommandsWakeTheBlock : Prop :=
  ∀ s t : State, s.Inv → s.phase = .suspended → (∀ rest, s.agenda ≠ .powerOn :: rest) → step s = .next t →
    (t.phase = .suspended ∧ t.hclk = true ∧ t.hdat = s.hdat ∧ t.rxPos = 0 ∧ t.txPos = 0 ∧
      t.buf = s.buf ∧ t.bufPe = s.bufPe) ∨
    (t.phase = .idle ∧ ∃ (u : State) (a : Byte),
      u = { s with agenda := t.agenda, cmds := t.cmds } ∧
      (exec (.hostResume a) u = .next t ∨ exec (.hostBegin a) u = .next t ∨ exec (.hostReset a) u = .next t))

/-- R42, R211: the response and the label of a step are outputs and change no behaviour: two states that differ only in
the last step's outputs take the same step. -/
def Obligations.OutputsChangeNoBehaviour : Prop :=
  ∀ (s : State) (r : Option Response) (l : Option Label), step { s with rsp := r, ev := l } = step s

/-! ## Power-on and faulted states: the model's own choices -/

/-- Power-on, beyond the register column of R47. That the parameters, the turns still to come and the commands still on
offer stay, and that no response is delivered, is the model's reading (log entry 13, DEDUCED); that a new number of the
power-on stands for contents of the slots that are unspecified again is log entry 2 (DESIGN CHOICE); and that a faulted
state takes this turn like any other state is log entry 7 (DESIGN CHOICE). -/
def Obligations.PowerOnLeavesTheInputsAlone : Prop :=
  ∀ (s : State) (rest : List Turn), s.agenda = .powerOn :: rest →
    ∃ t, step s = .next t ∧ t.agenda = rest ∧ t.cmds = s.cmds ∧ t.params = s.params ∧
      t.epoch = s.epoch + 1 ∧ t.buf = [] ∧ t.bufPe = [] ∧ t.rsp = none ∧ t.ev = none

/-- R48, U6: a state with HEAD or TAIL at or above BUF_SLOTS is faulted. Step stops on it whatever turn is next, with
one exception, which is the model's (log entry 7, DESIGN CHOICE): asserting `rst_n`. Every other fault of step is an edge
whose key the table of R90 does not list. -/
def Obligations.AnIndexOutsideTheBufferFaultsTheState : Prop :=
  ∀ s : State,
    (step s = .fault .noSuchSlot ↔ ¬ s.IndicesInRange ∧ ∀ rest, s.agenda ≠ .powerOn :: rest) ∧
    (∀ f, step s = .fault f → f ≠ .noSuchSlot →
      ∃ v e, f = .undecodable e ∧ decode (.edge s.edgeKey v) = .error e)
end

