-- ==== Sys2Proof/Laws/Memory.lean ====
section
/-! SUPPORT. The laws of the slot memory: a read after a write, and that a write keeps the canonical form. -/

namespace Sys2Proof.Machine

variable {α β : Type}

@[simp] theorem Memory.load_nil (a : Nat) : Memory.load ([] : Memory α) a = none := rfl

/-- A slot that was just written reads as the value written. -/
@[simp] theorem Memory.load_store_same (m : Memory α) (a : Nat) (v : α) :
    Memory.load (Memory.store m a v) a = some v := by
  induction m with
  | nil => simp [Memory.store, Memory.load]
  | cons c m ih =>
    obtain ⟨b, w⟩ := c
    simp only [Memory.store]
    split
    · simp [Memory.load]
    · split <;> simp_all [Memory.load]

/-- A write leaves every other slot alone. -/
theorem Memory.load_store_ne (m : Memory α) {a c : Nat} (v : α) (h : c ≠ a) :
    Memory.load (Memory.store m a v) c = Memory.load m c := by
  induction m with
  | nil => simp [Memory.store, Memory.load, h]
  | cons d m ih =>
    obtain ⟨b, w⟩ := d
    simp only [Memory.store]
    split
    · simp [Memory.load, h]
    · split
      · simp_all [Memory.load]
      · simp [Memory.load, ih]

/-- A read after a write, both cases. -/
theorem Memory.load_store (m : Memory α) (a c : Nat) (v : α) :
    Memory.load (Memory.store m a v) c = if c = a then some v else Memory.load m c := by
  by_cases h : c = a
  · simp [h]
  · simp [h, Memory.load_store_ne]

theorem Memory.risesAbove_store (m : Memory α) {lo a : Nat} (v : α) (hlo : lo < a)
    (h : Memory.risesAbove lo m = true) : Memory.risesAbove lo (Memory.store m a v) = true := by
  induction m generalizing lo with
  | nil => simp [Memory.store, Memory.risesAbove, hlo]
  | cons c m ih =>
    obtain ⟨b, w⟩ := c
    simp only [Memory.risesAbove, Bool.and_eq_true, decide_eq_true_eq] at h
    simp only [Memory.store]
    split
    · simp_all [Memory.risesAbove]
    · split
      · simp_all [Memory.risesAbove]
      · simp only [Memory.risesAbove, Bool.and_eq_true, decide_eq_true_eq]
        exact ⟨h.1, ih (by omega) h.2⟩

/-- A write keeps the canonical form. -/
theorem Memory.wf_store (m : Memory α) (a : Nat) (v : α) (h : Memory.wf m = true) :
    Memory.wf (Memory.store m a v) = true := by
  cases m with
  | nil => simp [Memory.store, Memory.wf, Memory.risesAbove]
  | cons c m =>
    obtain ⟨b, w⟩ := c
    simp only [Memory.wf] at h
    simp only [Memory.store]
    split
    · simp_all [Memory.wf, Memory.risesAbove]
    · split
      · simp_all [Memory.wf]
      · exact Memory.risesAbove_store m v (by omega) h

/-- Which slots a write lists depends on the slots listed before, not on their contents. -/
theorem Memory.keys_store (m : Memory α) (n : Memory β) (a : Nat) (v : α) (w : β)
    (h : m.map (·.1) = n.map (·.1)) :
    (Memory.store m a v).map (·.1) = (Memory.store n a w).map (·.1) := by
  induction m generalizing n with
  | nil => cases n <;> simp_all [Memory.store]
  | cons c m ih =>
    cases n with
    | nil => simp at h
    | cons d n =>
      obtain ⟨b, x⟩ := c
      obtain ⟨b', y⟩ := d
      simp only [List.map_cons, List.cons.injEq] at h
      obtain ⟨rfl, h⟩ := h
      simp only [Memory.store]
      split
      · simp [h]
      · split
        · simp [h]
        · simp [ih n h]

/-- Equal memories are equal lists: two canonical memories that read the same at every slot are the same data. -/
theorem Memory.ext_of_load (m n : Memory α) (hm : Memory.wf m = true) (hn : Memory.wf n = true)
    (h : ∀ a, Memory.load m a = Memory.load n a) : m = n := by
  have below : ∀ (k : Memory α) (lo a : Nat), Memory.risesAbove lo k = true → a ≤ lo → Memory.load k a = none := by
    intro k
    induction k with
    | nil => intros; rfl
    | cons c k ih =>
      intro lo a hk ha
      obtain ⟨b, w⟩ := c
      simp only [Memory.risesAbove, Bool.and_eq_true, decide_eq_true_eq] at hk
      simp only [Memory.load]
      rw [if_neg (by omega)]
      exact ih b a hk.2 (by omega)
  have main : ∀ (k l : Memory α), Memory.wf k = true → Memory.wf l = true →
      (∀ a, Memory.load k a = Memory.load l a) → k = l := by
    intro k
    induction k with
    | nil =>
      intro l _ _ h
      cases l with
      | nil => rfl
      | cons d l => simpa [Memory.load] using h d.1
    | cons c k ih =>
      intro l hk hl h
      cases l with
      | nil => simpa [Memory.load] using h c.1
      | cons d l =>
        obtain ⟨b, w⟩ := c
        obtain ⟨b', w'⟩ := d
        simp only [Memory.wf] at hk hl
        have hbb : b = b' := by
          rcases Nat.lt_trichotomy b b' with hlt | heq | hgt
          · have := h b
            simp [Memory.load, Nat.ne_of_lt hlt, below l b' b hl (by omega)] at this
          · exact heq
          · have := h b'
            simp [Memory.load, Nat.ne_of_lt hgt, below k b b' hk (by omega)] at this
        subst hbb
        have hww : w = w' := by simpa [Memory.load] using h b
        subst hww
        have wfOf : ∀ (j : Memory α), Memory.risesAbove b j = true → Memory.wf j = true := by
          intro j hj
          cases j with
          | nil => rfl
          | cons e j =>
            obtain ⟨x, y⟩ := e
            simp only [Memory.risesAbove, Bool.and_eq_true] at hj
            exact hj.2
        rw [ih l (wfOf k hk) (wfOf l hl) ?_]
        intro a
        by_cases hab : a = b
        · subst hab
          rw [below k a a hk (Nat.le_refl _), below l a a hl (Nat.le_refl _)]
        · simpa [Memory.load, hab] using h a
  exact main m n hm hn h

end Sys2Proof.Machine
end

