-- ==== Sys2Proof/Laws/State.lean ====
section
/-! SUPPORT. One lemma for each field under each named update of the state, so that no later proof unfolds a record
update. -/

namespace Sys2Proof.Machine

/-! ### quiet -/

@[simp] theorem State.quiet_phase (s : State) :
    s.quiet.phase = s.phase := rfl
@[simp] theorem State.quiet_rxShift (s : State) :
    s.quiet.rxShift = s.rxShift := rfl
@[simp] theorem State.quiet_rxPar (s : State) :
    s.quiet.rxPar = s.rxPar := rfl
@[simp] theorem State.quiet_rxPe (s : State) :
    s.quiet.rxPe = s.rxPe := rfl
@[simp] theorem State.quiet_rxPos (s : State) :
    s.quiet.rxPos = s.rxPos := rfl
@[simp] theorem State.quiet_txByte (s : State) :
    s.quiet.txByte = s.txByte := rfl
@[simp] theorem State.quiet_txPar (s : State) :
    s.quiet.txPar = s.txPar := rfl
@[simp] theorem State.quiet_txPos (s : State) :
    s.quiet.txPos = s.txPos := rfl
@[simp] theorem State.quiet_txDone (s : State) :
    s.quiet.txDone = s.txDone := rfl
@[simp] theorem State.quiet_txNak (s : State) :
    s.quiet.txNak = s.txNak := rfl
@[simp] theorem State.quiet_ien (s : State) :
    s.quiet.ien = s.ien := rfl
@[simp] theorem State.quiet_buf (s : State) :
    s.quiet.buf = s.buf := rfl
@[simp] theorem State.quiet_bufPe (s : State) :
    s.quiet.bufPe = s.bufPe := rfl
@[simp] theorem State.quiet_head (s : State) :
    s.quiet.head = s.head := rfl
@[simp] theorem State.quiet_tail (s : State) :
    s.quiet.tail = s.tail := rfl
@[simp] theorem State.quiet_hclk (s : State) :
    s.quiet.hclk = s.hclk := rfl
@[simp] theorem State.quiet_hdat (s : State) :
    s.quiet.hdat = s.hdat := rfl
@[simp] theorem State.quiet_seq (s : State) :
    s.quiet.seq = s.seq := rfl
@[simp] theorem State.quiet_holdCnt (s : State) :
    s.quiet.holdCnt = s.holdCnt := rfl
@[simp] theorem State.quiet_wdCnt (s : State) :
    s.quiet.wdCnt = s.wdCnt := rfl
@[simp] theorem State.quiet_clkPrev (s : State) :
    s.quiet.clkPrev = s.clkPrev := rfl
@[simp] theorem State.quiet_params (s : State) :
    s.quiet.params = s.params := rfl
@[simp] theorem State.quiet_epoch (s : State) :
    s.quiet.epoch = s.epoch := rfl
@[simp] theorem State.quiet_agenda (s : State) :
    s.quiet.agenda = s.agenda := rfl
@[simp] theorem State.quiet_cmds (s : State) :
    s.quiet.cmds = s.cmds := rfl
@[simp] theorem State.quiet_rsp (s : State) :
    s.quiet.rsp = none := rfl
@[simp] theorem State.quiet_ev (s : State) :
    s.quiet.ev = none := rfl

/-! ### respond -/

@[simp] theorem State.respond_phase (s : State) (st : Status) (v : BitVec 9) :
    (s.respond st v).phase = s.phase := rfl
@[simp] theorem State.respond_rxShift (s : State) (st : Status) (v : BitVec 9) :
    (s.respond st v).rxShift = s.rxShift := rfl
@[simp] theorem State.respond_rxPar (s : State) (st : Status) (v : BitVec 9) :
    (s.respond st v).rxPar = s.rxPar := rfl
@[simp] theorem State.respond_rxPe (s : State) (st : Status) (v : BitVec 9) :
    (s.respond st v).rxPe = s.rxPe := rfl
@[simp] theorem State.respond_rxPos (s : State) (st : Status) (v : BitVec 9) :
    (s.respond st v).rxPos = s.rxPos := rfl
@[simp] theorem State.respond_txByte (s : State) (st : Status) (v : BitVec 9) :
    (s.respond st v).txByte = s.txByte := rfl
@[simp] theorem State.respond_txPar (s : State) (st : Status) (v : BitVec 9) :
    (s.respond st v).txPar = s.txPar := rfl
@[simp] theorem State.respond_txPos (s : State) (st : Status) (v : BitVec 9) :
    (s.respond st v).txPos = s.txPos := rfl
@[simp] theorem State.respond_txDone (s : State) (st : Status) (v : BitVec 9) :
    (s.respond st v).txDone = s.txDone := rfl
@[simp] theorem State.respond_txNak (s : State) (st : Status) (v : BitVec 9) :
    (s.respond st v).txNak = s.txNak := rfl
@[simp] theorem State.respond_ien (s : State) (st : Status) (v : BitVec 9) :
    (s.respond st v).ien = s.ien := rfl
@[simp] theorem State.respond_buf (s : State) (st : Status) (v : BitVec 9) :
    (s.respond st v).buf = s.buf := rfl
@[simp] theorem State.respond_bufPe (s : State) (st : Status) (v : BitVec 9) :
    (s.respond st v).bufPe = s.bufPe := rfl
@[simp] theorem State.respond_head (s : State) (st : Status) (v : BitVec 9) :
    (s.respond st v).head = s.head := rfl
@[simp] theorem State.respond_tail (s : State) (st : Status) (v : BitVec 9) :
    (s.respond st v).tail = s.tail := rfl
@[simp] theorem State.respond_hclk (s : State) (st : Status) (v : BitVec 9) :
    (s.respond st v).hclk = s.hclk := rfl
@[simp] theorem State.respond_hdat (s : State) (st : Status) (v : BitVec 9) :
    (s.respond st v).hdat = s.hdat := rfl
@[simp] theorem State.respond_seq (s : State) (st : Status) (v : BitVec 9) :
    (s.respond st v).seq = s.seq := rfl
@[simp] theorem State.respond_holdCnt (s : State) (st : Status) (v : BitVec 9) :
    (s.respond st v).holdCnt = s.holdCnt := rfl
@[simp] theorem State.respond_wdCnt (s : State) (st : Status) (v : BitVec 9) :
    (s.respond st v).wdCnt = s.wdCnt := rfl
@[simp] theorem State.respond_clkPrev (s : State) (st : Status) (v : BitVec 9) :
    (s.respond st v).clkPrev = s.clkPrev := rfl
@[simp] theorem State.respond_params (s : State) (st : Status) (v : BitVec 9) :
    (s.respond st v).params = s.params := rfl
@[simp] theorem State.respond_epoch (s : State) (st : Status) (v : BitVec 9) :
    (s.respond st v).epoch = s.epoch := rfl
@[simp] theorem State.respond_agenda (s : State) (st : Status) (v : BitVec 9) :
    (s.respond st v).agenda = s.agenda := rfl
@[simp] theorem State.respond_cmds (s : State) (st : Status) (v : BitVec 9) :
    (s.respond st v).cmds = s.cmds := rfl
@[simp] theorem State.respond_rsp (s : State) (st : Status) (v : BitVec 9) :
    (s.respond st v).rsp = some { status := st, value := v } := rfl
@[simp] theorem State.respond_ev (s : State) (st : Status) (v : BitVec 9) :
    (s.respond st v).ev = s.ev := rfl

/-! ### emit -/

@[simp] theorem State.emit_phase (s : State) (l : Label) :
    (s.emit l).phase = s.phase := rfl
@[simp] theorem State.emit_rxShift (s : State) (l : Label) :
    (s.emit l).rxShift = s.rxShift := rfl
@[simp] theorem State.emit_rxPar (s : State) (l : Label) :
    (s.emit l).rxPar = s.rxPar := rfl
@[simp] theorem State.emit_rxPe (s : State) (l : Label) :
    (s.emit l).rxPe = s.rxPe := rfl
@[simp] theorem State.emit_rxPos (s : State) (l : Label) :
    (s.emit l).rxPos = s.rxPos := rfl
@[simp] theorem State.emit_txByte (s : State) (l : Label) :
    (s.emit l).txByte = s.txByte := rfl
@[simp] theorem State.emit_txPar (s : State) (l : Label) :
    (s.emit l).txPar = s.txPar := rfl
@[simp] theorem State.emit_txPos (s : State) (l : Label) :
    (s.emit l).txPos = s.txPos := rfl
@[simp] theorem State.emit_txDone (s : State) (l : Label) :
    (s.emit l).txDone = s.txDone := rfl
@[simp] theorem State.emit_txNak (s : State) (l : Label) :
    (s.emit l).txNak = s.txNak := rfl
@[simp] theorem State.emit_ien (s : State) (l : Label) :
    (s.emit l).ien = s.ien := rfl
@[simp] theorem State.emit_buf (s : State) (l : Label) :
    (s.emit l).buf = s.buf := rfl
@[simp] theorem State.emit_bufPe (s : State) (l : Label) :
    (s.emit l).bufPe = s.bufPe := rfl
@[simp] theorem State.emit_head (s : State) (l : Label) :
    (s.emit l).head = s.head := rfl
@[simp] theorem State.emit_tail (s : State) (l : Label) :
    (s.emit l).tail = s.tail := rfl
@[simp] theorem State.emit_hclk (s : State) (l : Label) :
    (s.emit l).hclk = s.hclk := rfl
@[simp] theorem State.emit_hdat (s : State) (l : Label) :
    (s.emit l).hdat = s.hdat := rfl
@[simp] theorem State.emit_seq (s : State) (l : Label) :
    (s.emit l).seq = s.seq := rfl
@[simp] theorem State.emit_holdCnt (s : State) (l : Label) :
    (s.emit l).holdCnt = s.holdCnt := rfl
@[simp] theorem State.emit_wdCnt (s : State) (l : Label) :
    (s.emit l).wdCnt = s.wdCnt := rfl
@[simp] theorem State.emit_clkPrev (s : State) (l : Label) :
    (s.emit l).clkPrev = s.clkPrev := rfl
@[simp] theorem State.emit_params (s : State) (l : Label) :
    (s.emit l).params = s.params := rfl
@[simp] theorem State.emit_epoch (s : State) (l : Label) :
    (s.emit l).epoch = s.epoch := rfl
@[simp] theorem State.emit_agenda (s : State) (l : Label) :
    (s.emit l).agenda = s.agenda := rfl
@[simp] theorem State.emit_cmds (s : State) (l : Label) :
    (s.emit l).cmds = s.cmds := rfl
@[simp] theorem State.emit_rsp (s : State) (l : Label) :
    (s.emit l).rsp = s.rsp := rfl
@[simp] theorem State.emit_ev (s : State) (l : Label) :
    (s.emit l).ev = some l := rfl

/-! ### raise -/

@[simp] theorem State.raise_phase (s : State) (st : Status) :
    (s.raise st).phase = s.phase := rfl
@[simp] theorem State.raise_rxShift (s : State) (st : Status) :
    (s.raise st).rxShift = s.rxShift := rfl
@[simp] theorem State.raise_rxPar (s : State) (st : Status) :
    (s.raise st).rxPar = s.rxPar := rfl
@[simp] theorem State.raise_rxPe (s : State) (st : Status) :
    (s.raise st).rxPe = s.rxPe := rfl
@[simp] theorem State.raise_rxPos (s : State) (st : Status) :
    (s.raise st).rxPos = s.rxPos := rfl
@[simp] theorem State.raise_txByte (s : State) (st : Status) :
    (s.raise st).txByte = s.txByte := rfl
@[simp] theorem State.raise_txPar (s : State) (st : Status) :
    (s.raise st).txPar = s.txPar := rfl
@[simp] theorem State.raise_txPos (s : State) (st : Status) :
    (s.raise st).txPos = s.txPos := rfl
@[simp] theorem State.raise_txDone (s : State) (st : Status) :
    (s.raise st).txDone = s.txDone := rfl
@[simp] theorem State.raise_txNak (s : State) (st : Status) :
    (s.raise st).txNak = s.txNak := rfl
@[simp] theorem State.raise_ien (s : State) (st : Status) :
    (s.raise st).ien = s.ien := rfl
@[simp] theorem State.raise_buf (s : State) (st : Status) :
    (s.raise st).buf = s.buf := rfl
@[simp] theorem State.raise_bufPe (s : State) (st : Status) :
    (s.raise st).bufPe = s.bufPe := rfl
@[simp] theorem State.raise_head (s : State) (st : Status) :
    (s.raise st).head = s.head := rfl
@[simp] theorem State.raise_tail (s : State) (st : Status) :
    (s.raise st).tail = s.tail := rfl
@[simp] theorem State.raise_hclk (s : State) (st : Status) :
    (s.raise st).hclk = s.hclk := rfl
@[simp] theorem State.raise_hdat (s : State) (st : Status) :
    (s.raise st).hdat = s.hdat := rfl
@[simp] theorem State.raise_seq (s : State) (st : Status) :
    (s.raise st).seq = s.seq := rfl
@[simp] theorem State.raise_holdCnt (s : State) (st : Status) :
    (s.raise st).holdCnt = s.holdCnt := rfl
@[simp] theorem State.raise_wdCnt (s : State) (st : Status) :
    (s.raise st).wdCnt = s.wdCnt := rfl
@[simp] theorem State.raise_clkPrev (s : State) (st : Status) :
    (s.raise st).clkPrev = s.clkPrev := rfl
@[simp] theorem State.raise_params (s : State) (st : Status) :
    (s.raise st).params = s.params := rfl
@[simp] theorem State.raise_epoch (s : State) (st : Status) :
    (s.raise st).epoch = s.epoch := rfl
@[simp] theorem State.raise_agenda (s : State) (st : Status) :
    (s.raise st).agenda = s.agenda := rfl
@[simp] theorem State.raise_cmds (s : State) (st : Status) :
    (s.raise st).cmds = s.cmds := rfl
@[simp] theorem State.raise_rsp (s : State) (st : Status) :
    (s.raise st).rsp = some { status := st, value := 0 } := rfl
@[simp] theorem State.raise_ev (s : State) (st : Status) :
    (s.raise st).ev = st.label := rfl

/-! ### bufWrite -/

@[simp] theorem State.bufWrite_phase (s : State) (i : Nat) (pe : Bool) (b : Byte) :
    (s.bufWrite i pe b).phase = s.phase := rfl
@[simp] theorem State.bufWrite_rxShift (s : State) (i : Nat) (pe : Bool) (b : Byte) :
    (s.bufWrite i pe b).rxShift = s.rxShift := rfl
@[simp] theorem State.bufWrite_rxPar (s : State) (i : Nat) (pe : Bool) (b : Byte) :
    (s.bufWrite i pe b).rxPar = s.rxPar := rfl
@[simp] theorem State.bufWrite_rxPe (s : State) (i : Nat) (pe : Bool) (b : Byte) :
    (s.bufWrite i pe b).rxPe = s.rxPe := rfl
@[simp] theorem State.bufWrite_rxPos (s : State) (i : Nat) (pe : Bool) (b : Byte) :
    (s.bufWrite i pe b).rxPos = s.rxPos := rfl
@[simp] theorem State.bufWrite_txByte (s : State) (i : Nat) (pe : Bool) (b : Byte) :
    (s.bufWrite i pe b).txByte = s.txByte := rfl
@[simp] theorem State.bufWrite_txPar (s : State) (i : Nat) (pe : Bool) (b : Byte) :
    (s.bufWrite i pe b).txPar = s.txPar := rfl
@[simp] theorem State.bufWrite_txPos (s : State) (i : Nat) (pe : Bool) (b : Byte) :
    (s.bufWrite i pe b).txPos = s.txPos := rfl
@[simp] theorem State.bufWrite_txDone (s : State) (i : Nat) (pe : Bool) (b : Byte) :
    (s.bufWrite i pe b).txDone = s.txDone := rfl
@[simp] theorem State.bufWrite_txNak (s : State) (i : Nat) (pe : Bool) (b : Byte) :
    (s.bufWrite i pe b).txNak = s.txNak := rfl
@[simp] theorem State.bufWrite_ien (s : State) (i : Nat) (pe : Bool) (b : Byte) :
    (s.bufWrite i pe b).ien = s.ien := rfl
@[simp] theorem State.bufWrite_buf (s : State) (i : Nat) (pe : Bool) (b : Byte) :
    (s.bufWrite i pe b).buf = Memory.store s.buf i b := rfl
@[simp] theorem State.bufWrite_bufPe (s : State) (i : Nat) (pe : Bool) (b : Byte) :
    (s.bufWrite i pe b).bufPe = Memory.store s.bufPe i pe := rfl
@[simp] theorem State.bufWrite_head (s : State) (i : Nat) (pe : Bool) (b : Byte) :
    (s.bufWrite i pe b).head = s.head := rfl
@[simp] theorem State.bufWrite_tail (s : State) (i : Nat) (pe : Bool) (b : Byte) :
    (s.bufWrite i pe b).tail = s.tail := rfl
@[simp] theorem State.bufWrite_hclk (s : State) (i : Nat) (pe : Bool) (b : Byte) :
    (s.bufWrite i pe b).hclk = s.hclk := rfl
@[simp] theorem State.bufWrite_hdat (s : State) (i : Nat) (pe : Bool) (b : Byte) :
    (s.bufWrite i pe b).hdat = s.hdat := rfl
@[simp] theorem State.bufWrite_seq (s : State) (i : Nat) (pe : Bool) (b : Byte) :
    (s.bufWrite i pe b).seq = s.seq := rfl
@[simp] theorem State.bufWrite_holdCnt (s : State) (i : Nat) (pe : Bool) (b : Byte) :
    (s.bufWrite i pe b).holdCnt = s.holdCnt := rfl
@[simp] theorem State.bufWrite_wdCnt (s : State) (i : Nat) (pe : Bool) (b : Byte) :
    (s.bufWrite i pe b).wdCnt = s.wdCnt := rfl
@[simp] theorem State.bufWrite_clkPrev (s : State) (i : Nat) (pe : Bool) (b : Byte) :
    (s.bufWrite i pe b).clkPrev = s.clkPrev := rfl
@[simp] theorem State.bufWrite_params (s : State) (i : Nat) (pe : Bool) (b : Byte) :
    (s.bufWrite i pe b).params = s.params := rfl
@[simp] theorem State.bufWrite_epoch (s : State) (i : Nat) (pe : Bool) (b : Byte) :
    (s.bufWrite i pe b).epoch = s.epoch := rfl
@[simp] theorem State.bufWrite_agenda (s : State) (i : Nat) (pe : Bool) (b : Byte) :
    (s.bufWrite i pe b).agenda = s.agenda := rfl
@[simp] theorem State.bufWrite_cmds (s : State) (i : Nat) (pe : Bool) (b : Byte) :
    (s.bufWrite i pe b).cmds = s.cmds := rfl
@[simp] theorem State.bufWrite_rsp (s : State) (i : Nat) (pe : Bool) (b : Byte) :
    (s.bufWrite i pe b).rsp = s.rsp := rfl
@[simp] theorem State.bufWrite_ev (s : State) (i : Nat) (pe : Bool) (b : Byte) :
    (s.bufWrite i pe b).ev = s.ev := rfl

/-! ### advanceHead -/

@[simp] theorem State.advanceHead_phase (s : State) :
    s.advanceHead.phase = s.phase := rfl
@[simp] theorem State.advanceHead_rxShift (s : State) :
    s.advanceHead.rxShift = s.rxShift := rfl
@[simp] theorem State.advanceHead_rxPar (s : State) :
    s.advanceHead.rxPar = s.rxPar := rfl
@[simp] theorem State.advanceHead_rxPe (s : State) :
    s.advanceHead.rxPe = s.rxPe := rfl
@[simp] theorem State.advanceHead_rxPos (s : State) :
    s.advanceHead.rxPos = s.rxPos := rfl
@[simp] theorem State.advanceHead_txByte (s : State) :
    s.advanceHead.txByte = s.txByte := rfl
@[simp] theorem State.advanceHead_txPar (s : State) :
    s.advanceHead.txPar = s.txPar := rfl
@[simp] theorem State.advanceHead_txPos (s : State) :
    s.advanceHead.txPos = s.txPos := rfl
@[simp] theorem State.advanceHead_txDone (s : State) :
    s.advanceHead.txDone = s.txDone := rfl
@[simp] theorem State.advanceHead_txNak (s : State) :
    s.advanceHead.txNak = s.txNak := rfl
@[simp] theorem State.advanceHead_ien (s : State) :
    s.advanceHead.ien = s.ien := rfl
@[simp] theorem State.advanceHead_buf (s : State) :
    s.advanceHead.buf = s.buf := rfl
@[simp] theorem State.advanceHead_bufPe (s : State) :
    s.advanceHead.bufPe = s.bufPe := rfl
@[simp] theorem State.advanceHead_head (s : State) :
    s.advanceHead.head = s.nextIndex s.head := rfl
@[simp] theorem State.advanceHead_tail (s : State) :
    s.advanceHead.tail = s.tail := rfl
@[simp] theorem State.advanceHead_hclk (s : State) :
    s.advanceHead.hclk = s.hclk := rfl
@[simp] theorem State.advanceHead_hdat (s : State) :
    s.advanceHead.hdat = s.hdat := rfl
@[simp] theorem State.advanceHead_seq (s : State) :
    s.advanceHead.seq = s.seq := rfl
@[simp] theorem State.advanceHead_holdCnt (s : State) :
    s.advanceHead.holdCnt = s.holdCnt := rfl
@[simp] theorem State.advanceHead_wdCnt (s : State) :
    s.advanceHead.wdCnt = s.wdCnt := rfl
@[simp] theorem State.advanceHead_clkPrev (s : State) :
    s.advanceHead.clkPrev = s.clkPrev := rfl
@[simp] theorem State.advanceHead_params (s : State) :
    s.advanceHead.params = s.params := rfl
@[simp] theorem State.advanceHead_epoch (s : State) :
    s.advanceHead.epoch = s.epoch := rfl
@[simp] theorem State.advanceHead_agenda (s : State) :
    s.advanceHead.agenda = s.agenda := rfl
@[simp] theorem State.advanceHead_cmds (s : State) :
    s.advanceHead.cmds = s.cmds := rfl
@[simp] theorem State.advanceHead_rsp (s : State) :
    s.advanceHead.rsp = s.rsp := rfl
@[simp] theorem State.advanceHead_ev (s : State) :
    s.advanceHead.ev = s.ev := rfl

/-! ### clearRing -/

@[simp] theorem State.clearRing_phase (s : State) :
    s.clearRing.phase = s.phase := rfl
@[simp] theorem State.clearRing_rxShift (s : State) :
    s.clearRing.rxShift = s.rxShift := rfl
@[simp] theorem State.clearRing_rxPar (s : State) :
    s.clearRing.rxPar = s.rxPar := rfl
@[simp] theorem State.clearRing_rxPe (s : State) :
    s.clearRing.rxPe = s.rxPe := rfl
@[simp] theorem State.clearRing_rxPos (s : State) :
    s.clearRing.rxPos = s.rxPos := rfl
@[simp] theorem State.clearRing_txByte (s : State) :
    s.clearRing.txByte = s.txByte := rfl
@[simp] theorem State.clearRing_txPar (s : State) :
    s.clearRing.txPar = s.txPar := rfl
@[simp] theorem State.clearRing_txPos (s : State) :
    s.clearRing.txPos = s.txPos := rfl
@[simp] theorem State.clearRing_txDone (s : State) :
    s.clearRing.txDone = s.txDone := rfl
@[simp] theorem State.clearRing_txNak (s : State) :
    s.clearRing.txNak = s.txNak := rfl
@[simp] theorem State.clearRing_ien (s : State) :
    s.clearRing.ien = s.ien := rfl
@[simp] theorem State.clearRing_buf (s : State) :
    s.clearRing.buf = s.buf := rfl
@[simp] theorem State.clearRing_bufPe (s : State) :
    s.clearRing.bufPe = s.bufPe := rfl
@[simp] theorem State.clearRing_head (s : State) :
    s.clearRing.head = 0 := rfl
@[simp] theorem State.clearRing_tail (s : State) :
    s.clearRing.tail = 0 := rfl
@[simp] theorem State.clearRing_hclk (s : State) :
    s.clearRing.hclk = s.hclk := rfl
@[simp] theorem State.clearRing_hdat (s : State) :
    s.clearRing.hdat = s.hdat := rfl
@[simp] theorem State.clearRing_seq (s : State) :
    s.clearRing.seq = s.seq := rfl
@[simp] theorem State.clearRing_holdCnt (s : State) :
    s.clearRing.holdCnt = s.holdCnt := rfl
@[simp] theorem State.clearRing_wdCnt (s : State) :
    s.clearRing.wdCnt = s.wdCnt := rfl
@[simp] theorem State.clearRing_clkPrev (s : State) :
    s.clearRing.clkPrev = s.clkPrev := rfl
@[simp] theorem State.clearRing_params (s : State) :
    s.clearRing.params = s.params := rfl
@[simp] theorem State.clearRing_epoch (s : State) :
    s.clearRing.epoch = s.epoch := rfl
@[simp] theorem State.clearRing_agenda (s : State) :
    s.clearRing.agenda = s.agenda := rfl
@[simp] theorem State.clearRing_cmds (s : State) :
    s.clearRing.cmds = s.cmds := rfl
@[simp] theorem State.clearRing_rsp (s : State) :
    s.clearRing.rsp = s.rsp := rfl
@[simp] theorem State.clearRing_ev (s : State) :
    s.clearRing.ev = s.ev := rfl

/-! ### clearFrames -/

@[simp] theorem State.clearFrames_phase (s : State) :
    s.clearFrames.phase = .idle := rfl
@[simp] theorem State.clearFrames_rxShift (s : State) :
    s.clearFrames.rxShift = 0 := rfl
@[simp] theorem State.clearFrames_rxPar (s : State) :
    s.clearFrames.rxPar = false := rfl
@[simp] theorem State.clearFrames_rxPe (s : State) :
    s.clearFrames.rxPe = false := rfl
@[simp] theorem State.clearFrames_rxPos (s : State) :
    s.clearFrames.rxPos = 0 := rfl
@[simp] theorem State.clearFrames_txByte (s : State) :
    s.clearFrames.txByte = s.txByte := rfl
@[simp] theorem State.clearFrames_txPar (s : State) :
    s.clearFrames.txPar = false := rfl
@[simp] theorem State.clearFrames_txPos (s : State) :
    s.clearFrames.txPos = 0 := rfl
@[simp] theorem State.clearFrames_txDone (s : State) :
    s.clearFrames.txDone = false := rfl
@[simp] theorem State.clearFrames_txNak (s : State) :
    s.clearFrames.txNak = false := rfl
@[simp] theorem State.clearFrames_ien (s : State) :
    s.clearFrames.ien = s.ien := rfl
@[simp] theorem State.clearFrames_buf (s : State) :
    s.clearFrames.buf = s.buf := rfl
@[simp] theorem State.clearFrames_bufPe (s : State) :
    s.clearFrames.bufPe = s.bufPe := rfl
@[simp] theorem State.clearFrames_head (s : State) :
    s.clearFrames.head = s.head := rfl
@[simp] theorem State.clearFrames_tail (s : State) :
    s.clearFrames.tail = s.tail := rfl
@[simp] theorem State.clearFrames_hclk (s : State) :
    s.clearFrames.hclk = s.hclk := rfl
@[simp] theorem State.clearFrames_hdat (s : State) :
    s.clearFrames.hdat = s.hdat := rfl
@[simp] theorem State.clearFrames_seq (s : State) :
    s.clearFrames.seq = s.seq := rfl
@[simp] theorem State.clearFrames_holdCnt (s : State) :
    s.clearFrames.holdCnt = s.holdCnt := rfl
@[simp] theorem State.clearFrames_wdCnt (s : State) :
    s.clearFrames.wdCnt = s.wdCnt := rfl
@[simp] theorem State.clearFrames_clkPrev (s : State) :
    s.clearFrames.clkPrev = s.clkPrev := rfl
@[simp] theorem State.clearFrames_params (s : State) :
    s.clearFrames.params = s.params := rfl
@[simp] theorem State.clearFrames_epoch (s : State) :
    s.clearFrames.epoch = s.epoch := rfl
@[simp] theorem State.clearFrames_agenda (s : State) :
    s.clearFrames.agenda = s.agenda := rfl
@[simp] theorem State.clearFrames_cmds (s : State) :
    s.clearFrames.cmds = s.cmds := rfl
@[simp] theorem State.clearFrames_rsp (s : State) :
    s.clearFrames.rsp = s.rsp := rfl
@[simp] theorem State.clearFrames_ev (s : State) :
    s.clearFrames.ev = s.ev := rfl

/-! ### driveLines -/

@[simp] theorem State.driveLines_phase (s : State) (low : Bool) :
    (s.driveLines low).phase = s.phase := rfl
@[simp] theorem State.driveLines_rxShift (s : State) (low : Bool) :
    (s.driveLines low).rxShift = s.rxShift := rfl
@[simp] theorem State.driveLines_rxPar (s : State) (low : Bool) :
    (s.driveLines low).rxPar = s.rxPar := rfl
@[simp] theorem State.driveLines_rxPe (s : State) (low : Bool) :
    (s.driveLines low).rxPe = s.rxPe := rfl
@[simp] theorem State.driveLines_rxPos (s : State) (low : Bool) :
    (s.driveLines low).rxPos = s.rxPos := rfl
@[simp] theorem State.driveLines_txByte (s : State) (low : Bool) :
    (s.driveLines low).txByte = s.txByte := rfl
@[simp] theorem State.driveLines_txPar (s : State) (low : Bool) :
    (s.driveLines low).txPar = s.txPar := rfl
@[simp] theorem State.driveLines_txPos (s : State) (low : Bool) :
    (s.driveLines low).txPos = s.txPos := rfl
@[simp] theorem State.driveLines_txDone (s : State) (low : Bool) :
    (s.driveLines low).txDone = s.txDone := rfl
@[simp] theorem State.driveLines_txNak (s : State) (low : Bool) :
    (s.driveLines low).txNak = s.txNak := rfl
@[simp] theorem State.driveLines_ien (s : State) (low : Bool) :
    (s.driveLines low).ien = s.ien := rfl
@[simp] theorem State.driveLines_buf (s : State) (low : Bool) :
    (s.driveLines low).buf = s.buf := rfl
@[simp] theorem State.driveLines_bufPe (s : State) (low : Bool) :
    (s.driveLines low).bufPe = s.bufPe := rfl
@[simp] theorem State.driveLines_head (s : State) (low : Bool) :
    (s.driveLines low).head = s.head := rfl
@[simp] theorem State.driveLines_tail (s : State) (low : Bool) :
    (s.driveLines low).tail = s.tail := rfl
@[simp] theorem State.driveLines_hclk (s : State) (low : Bool) :
    (s.driveLines low).hclk = low := rfl
@[simp] theorem State.driveLines_hdat (s : State) (low : Bool) :
    (s.driveLines low).hdat = low := rfl
@[simp] theorem State.driveLines_seq (s : State) (low : Bool) :
    (s.driveLines low).seq = s.seq := rfl
@[simp] theorem State.driveLines_holdCnt (s : State) (low : Bool) :
    (s.driveLines low).holdCnt = s.holdCnt := rfl
@[simp] theorem State.driveLines_wdCnt (s : State) (low : Bool) :
    (s.driveLines low).wdCnt = s.wdCnt := rfl
@[simp] theorem State.driveLines_clkPrev (s : State) (low : Bool) :
    (s.driveLines low).clkPrev = s.clkPrev := rfl
@[simp] theorem State.driveLines_params (s : State) (low : Bool) :
    (s.driveLines low).params = s.params := rfl
@[simp] theorem State.driveLines_epoch (s : State) (low : Bool) :
    (s.driveLines low).epoch = s.epoch := rfl
@[simp] theorem State.driveLines_agenda (s : State) (low : Bool) :
    (s.driveLines low).agenda = s.agenda := rfl
@[simp] theorem State.driveLines_cmds (s : State) (low : Bool) :
    (s.driveLines low).cmds = s.cmds := rfl
@[simp] theorem State.driveLines_rsp (s : State) (low : Bool) :
    (s.driveLines low).rsp = s.rsp := rfl
@[simp] theorem State.driveLines_ev (s : State) (low : Bool) :
    (s.driveLines low).ev = s.ev := rfl

/-! ### requestToSend -/

@[simp] theorem State.requestToSend_phase (s : State) (q : Sequencer) :
    (s.requestToSend q).phase = .rts := rfl
@[simp] theorem State.requestToSend_rxShift (s : State) (q : Sequencer) :
    (s.requestToSend q).rxShift = s.rxShift := rfl
@[simp] theorem State.requestToSend_rxPar (s : State) (q : Sequencer) :
    (s.requestToSend q).rxPar = s.rxPar := rfl
@[simp] theorem State.requestToSend_rxPe (s : State) (q : Sequencer) :
    (s.requestToSend q).rxPe = s.rxPe := rfl
@[simp] theorem State.requestToSend_rxPos (s : State) (q : Sequencer) :
    (s.requestToSend q).rxPos = s.rxPos := rfl
@[simp] theorem State.requestToSend_txByte (s : State) (q : Sequencer) :
    (s.requestToSend q).txByte = s.txByte := rfl
@[simp] theorem State.requestToSend_txPar (s : State) (q : Sequencer) :
    (s.requestToSend q).txPar = false := rfl
@[simp] theorem State.requestToSend_txPos (s : State) (q : Sequencer) :
    (s.requestToSend q).txPos = 0 := rfl
@[simp] theorem State.requestToSend_txDone (s : State) (q : Sequencer) :
    (s.requestToSend q).txDone = false := rfl
@[simp] theorem State.requestToSend_txNak (s : State) (q : Sequencer) :
    (s.requestToSend q).txNak = false := rfl
@[simp] theorem State.requestToSend_ien (s : State) (q : Sequencer) :
    (s.requestToSend q).ien = s.ien := rfl
@[simp] theorem State.requestToSend_buf (s : State) (q : Sequencer) :
    (s.requestToSend q).buf = s.buf := rfl
@[simp] theorem State.requestToSend_bufPe (s : State) (q : Sequencer) :
    (s.requestToSend q).bufPe = s.bufPe := rfl
@[simp] theorem State.requestToSend_head (s : State) (q : Sequencer) :
    (s.requestToSend q).head = s.head := rfl
@[simp] theorem State.requestToSend_tail (s : State) (q : Sequencer) :
    (s.requestToSend q).tail = s.tail := rfl
@[simp] theorem State.requestToSend_hclk (s : State) (q : Sequencer) :
    (s.requestToSend q).hclk = true := rfl
@[simp] theorem State.requestToSend_hdat (s : State) (q : Sequencer) :
    (s.requestToSend q).hdat = s.hdat := rfl
@[simp] theorem State.requestToSend_seq (s : State) (q : Sequencer) :
    (s.requestToSend q).seq = q := rfl
@[simp] theorem State.requestToSend_holdCnt (s : State) (q : Sequencer) :
    (s.requestToSend q).holdCnt = s.params.holdTicks := rfl
@[simp] theorem State.requestToSend_wdCnt (s : State) (q : Sequencer) :
    (s.requestToSend q).wdCnt = s.wdCnt := rfl
@[simp] theorem State.requestToSend_clkPrev (s : State) (q : Sequencer) :
    (s.requestToSend q).clkPrev = s.clkPrev := rfl
@[simp] theorem State.requestToSend_params (s : State) (q : Sequencer) :
    (s.requestToSend q).params = s.params := rfl
@[simp] theorem State.requestToSend_epoch (s : State) (q : Sequencer) :
    (s.requestToSend q).epoch = s.epoch := rfl
@[simp] theorem State.requestToSend_agenda (s : State) (q : Sequencer) :
    (s.requestToSend q).agenda = s.agenda := rfl
@[simp] theorem State.requestToSend_cmds (s : State) (q : Sequencer) :
    (s.requestToSend q).cmds = s.cmds := rfl
@[simp] theorem State.requestToSend_rsp (s : State) (q : Sequencer) :
    (s.requestToSend q).rsp = s.rsp := rfl
@[simp] theorem State.requestToSend_ev (s : State) (q : Sequencer) :
    (s.requestToSend q).ev = s.ev := rfl

/-! ### startBit -/

@[simp] theorem State.startBit_phase (s : State) (q : Sequencer) :
    (s.startBit q).phase = s.phase := rfl
@[simp] theorem State.startBit_rxShift (s : State) (q : Sequencer) :
    (s.startBit q).rxShift = s.rxShift := rfl
@[simp] theorem State.startBit_rxPar (s : State) (q : Sequencer) :
    (s.startBit q).rxPar = s.rxPar := rfl
@[simp] theorem State.startBit_rxPe (s : State) (q : Sequencer) :
    (s.startBit q).rxPe = s.rxPe := rfl
@[simp] theorem State.startBit_rxPos (s : State) (q : Sequencer) :
    (s.startBit q).rxPos = s.rxPos := rfl
@[simp] theorem State.startBit_txByte (s : State) (q : Sequencer) :
    (s.startBit q).txByte = s.txByte := rfl
@[simp] theorem State.startBit_txPar (s : State) (q : Sequencer) :
    (s.startBit q).txPar = s.txPar := rfl
@[simp] theorem State.startBit_txPos (s : State) (q : Sequencer) :
    (s.startBit q).txPos = s.txPos := rfl
@[simp] theorem State.startBit_txDone (s : State) (q : Sequencer) :
    (s.startBit q).txDone = s.txDone := rfl
@[simp] theorem State.startBit_txNak (s : State) (q : Sequencer) :
    (s.startBit q).txNak = s.txNak := rfl
@[simp] theorem State.startBit_ien (s : State) (q : Sequencer) :
    (s.startBit q).ien = s.ien := rfl
@[simp] theorem State.startBit_buf (s : State) (q : Sequencer) :
    (s.startBit q).buf = s.buf := rfl
@[simp] theorem State.startBit_bufPe (s : State) (q : Sequencer) :
    (s.startBit q).bufPe = s.bufPe := rfl
@[simp] theorem State.startBit_head (s : State) (q : Sequencer) :
    (s.startBit q).head = s.head := rfl
@[simp] theorem State.startBit_tail (s : State) (q : Sequencer) :
    (s.startBit q).tail = s.tail := rfl
@[simp] theorem State.startBit_hclk (s : State) (q : Sequencer) :
    (s.startBit q).hclk = false := rfl
@[simp] theorem State.startBit_hdat (s : State) (q : Sequencer) :
    (s.startBit q).hdat = true := rfl
@[simp] theorem State.startBit_seq (s : State) (q : Sequencer) :
    (s.startBit q).seq = q := rfl
@[simp] theorem State.startBit_holdCnt (s : State) (q : Sequencer) :
    (s.startBit q).holdCnt = s.holdCnt := rfl
@[simp] theorem State.startBit_wdCnt (s : State) (q : Sequencer) :
    (s.startBit q).wdCnt = s.wdCnt := rfl
@[simp] theorem State.startBit_clkPrev (s : State) (q : Sequencer) :
    (s.startBit q).clkPrev = s.clkPrev := rfl
@[simp] theorem State.startBit_params (s : State) (q : Sequencer) :
    (s.startBit q).params = s.params := rfl
@[simp] theorem State.startBit_epoch (s : State) (q : Sequencer) :
    (s.startBit q).epoch = s.epoch := rfl
@[simp] theorem State.startBit_agenda (s : State) (q : Sequencer) :
    (s.startBit q).agenda = s.agenda := rfl
@[simp] theorem State.startBit_cmds (s : State) (q : Sequencer) :
    (s.startBit q).cmds = s.cmds := rfl
@[simp] theorem State.startBit_rsp (s : State) (q : Sequencer) :
    (s.startBit q).rsp = s.rsp := rfl
@[simp] theorem State.startBit_ev (s : State) (q : Sequencer) :
    (s.startBit q).ev = s.ev := rfl

/-! ### countDown -/

@[simp] theorem State.countDown_phase (s : State) :
    s.countDown.phase = s.phase := rfl
@[simp] theorem State.countDown_rxShift (s : State) :
    s.countDown.rxShift = s.rxShift := rfl
@[simp] theorem State.countDown_rxPar (s : State) :
    s.countDown.rxPar = s.rxPar := rfl
@[simp] theorem State.countDown_rxPe (s : State) :
    s.countDown.rxPe = s.rxPe := rfl
@[simp] theorem State.countDown_rxPos (s : State) :
    s.countDown.rxPos = s.rxPos := rfl
@[simp] theorem State.countDown_txByte (s : State) :
    s.countDown.txByte = s.txByte := rfl
@[simp] theorem State.countDown_txPar (s : State) :
    s.countDown.txPar = s.txPar := rfl
@[simp] theorem State.countDown_txPos (s : State) :
    s.countDown.txPos = s.txPos := rfl
@[simp] theorem State.countDown_txDone (s : State) :
    s.countDown.txDone = s.txDone := rfl
@[simp] theorem State.countDown_txNak (s : State) :
    s.countDown.txNak = s.txNak := rfl
@[simp] theorem State.countDown_ien (s : State) :
    s.countDown.ien = s.ien := rfl
@[simp] theorem State.countDown_buf (s : State) :
    s.countDown.buf = s.buf := rfl
@[simp] theorem State.countDown_bufPe (s : State) :
    s.countDown.bufPe = s.bufPe := rfl
@[simp] theorem State.countDown_head (s : State) :
    s.countDown.head = s.head := rfl
@[simp] theorem State.countDown_tail (s : State) :
    s.countDown.tail = s.tail := rfl
@[simp] theorem State.countDown_hclk (s : State) :
    s.countDown.hclk = s.hclk := rfl
@[simp] theorem State.countDown_hdat (s : State) :
    s.countDown.hdat = s.hdat := rfl
@[simp] theorem State.countDown_seq (s : State) :
    s.countDown.seq = s.seq := rfl
@[simp] theorem State.countDown_holdCnt (s : State) :
    s.countDown.holdCnt = if s.seq.holds then s.holdCnt - 1 else s.holdCnt := rfl
@[simp] theorem State.countDown_wdCnt (s : State) :
    s.countDown.wdCnt = if s.seq.watches ∧ 0 < s.wdCnt then s.wdCnt - 1 else s.wdCnt := rfl
@[simp] theorem State.countDown_clkPrev (s : State) :
    s.countDown.clkPrev = s.clkPrev := rfl
@[simp] theorem State.countDown_params (s : State) :
    s.countDown.params = s.params := rfl
@[simp] theorem State.countDown_epoch (s : State) :
    s.countDown.epoch = s.epoch := rfl
@[simp] theorem State.countDown_agenda (s : State) :
    s.countDown.agenda = s.agenda := rfl
@[simp] theorem State.countDown_cmds (s : State) :
    s.countDown.cmds = s.cmds := rfl
@[simp] theorem State.countDown_rsp (s : State) :
    s.countDown.rsp = s.rsp := rfl
@[simp] theorem State.countDown_ev (s : State) :
    s.countDown.ev = s.ev := rfl

/-! ### powerOn -/

@[simp] theorem State.powerOn_phase (s : State) :
    s.powerOn.phase = .idle := rfl
@[simp] theorem State.powerOn_rxShift (s : State) :
    s.powerOn.rxShift = 0 := rfl
@[simp] theorem State.powerOn_rxPar (s : State) :
    s.powerOn.rxPar = false := rfl
@[simp] theorem State.powerOn_rxPe (s : State) :
    s.powerOn.rxPe = false := rfl
@[simp] theorem State.powerOn_rxPos (s : State) :
    s.powerOn.rxPos = 0 := rfl
@[simp] theorem State.powerOn_txByte (s : State) :
    s.powerOn.txByte = 0 := rfl
@[simp] theorem State.powerOn_txPar (s : State) :
    s.powerOn.txPar = false := rfl
@[simp] theorem State.powerOn_txPos (s : State) :
    s.powerOn.txPos = 0 := rfl
@[simp] theorem State.powerOn_txDone (s : State) :
    s.powerOn.txDone = false := rfl
@[simp] theorem State.powerOn_txNak (s : State) :
    s.powerOn.txNak = false := rfl
@[simp] theorem State.powerOn_ien (s : State) :
    s.powerOn.ien = false := rfl
@[simp] theorem State.powerOn_buf (s : State) :
    s.powerOn.buf = [] := rfl
@[simp] theorem State.powerOn_bufPe (s : State) :
    s.powerOn.bufPe = [] := rfl
@[simp] theorem State.powerOn_head (s : State) :
    s.powerOn.head = 0 := rfl
@[simp] theorem State.powerOn_tail (s : State) :
    s.powerOn.tail = 0 := rfl
@[simp] theorem State.powerOn_hclk (s : State) :
    s.powerOn.hclk = false := rfl
@[simp] theorem State.powerOn_hdat (s : State) :
    s.powerOn.hdat = false := rfl
@[simp] theorem State.powerOn_seq (s : State) :
    s.powerOn.seq = .ready := rfl
@[simp] theorem State.powerOn_holdCnt (s : State) :
    s.powerOn.holdCnt = 0 := rfl
@[simp] theorem State.powerOn_wdCnt (s : State) :
    s.powerOn.wdCnt = 0 := rfl
@[simp] theorem State.powerOn_clkPrev (s : State) :
    s.powerOn.clkPrev = true := rfl
@[simp] theorem State.powerOn_params (s : State) :
    s.powerOn.params = s.params := rfl
@[simp] theorem State.powerOn_epoch (s : State) :
    s.powerOn.epoch = s.epoch + 1 := rfl
@[simp] theorem State.powerOn_agenda (s : State) :
    s.powerOn.agenda = s.agenda := rfl
@[simp] theorem State.powerOn_cmds (s : State) :
    s.powerOn.cmds = s.cmds := rfl
@[simp] theorem State.powerOn_rsp (s : State) :
    s.powerOn.rsp = none := rfl
@[simp] theorem State.powerOn_ev (s : State) :
    s.powerOn.ev = none := rfl

end Sys2Proof.Machine
end

