-- ==== Sys2Proof/Laws/Ops.lean ====
section
/-! SUPPORT. For each shared operation, once, everything it can do. -/

namespace Sys2Proof.Machine

/-! ### The conditions under which a step is taken -/

theorem State.accept_of_ready {s : State} (k : State → Result) (h : s.seq = .ready) : s.accept k = k s.quiet := by
  simp [State.accept, h]

theorem State.accept_of_not_ready {s : State} (k : State → Result) (h : s.seq ≠ .ready) :
    s.accept k = .next s.quiet := by
  simp [State.accept, h]

/-- What a host command can come to: its acceptance step, or a wait. -/
theorem State.accept_next {s t : State} {k : State → Result} (h : s.accept k = .next t) :
    (s.seq = .ready ∧ k s.quiet = .next t) ∨ (s.seq ≠ .ready ∧ t = s.quiet) := by
  unfold State.accept at h
  split at h
  · exact .inl ⟨‹_›, h⟩
  · cases h; exact .inr ⟨‹_›, rfl⟩

theorem State.onEdge_of_selected {s : State} {b : Bool} (k : State → Result) (h1 : s.ien = true)
    (h2 : s.hclk = false) (hb : b = true) : s.onEdge b k = k s.quiet := by
  simp [State.onEdge, State.qualifies, h1, h2, hb]

/-- What an edge can come to: a micro-operation, or nothing because the edge does not qualify. -/
theorem State.onEdge_next {s t : State} {b : Bool} {k : State → Result} (h : s.onEdge b k = .next t) :
    (s.ien = true ∧ s.hclk = false ∧ b = true ∧ k s.quiet = .next t) ∨
    ((s.ien = false ∨ s.hclk = true) ∧ t = s.quiet) := by
  unfold State.onEdge State.qualifies at h
  split at h
  · rename_i hq
    simp only [Bool.and_eq_true, Bool.not_eq_true'] at hq
    split at h
    · exact .inl ⟨hq.1, hq.2, ‹_›, h⟩
    · cases h
  · rename_i hq
    cases h
    refine .inr ⟨?_, rfl⟩
    cases hi : s.ien <;> cases hc : s.hclk <;> simp_all

theorem State.whenEnabled_of_enabled (s : State) {b : Bool} (k : State → Result) (hb : b = true) :
    s.whenEnabled b k = k s.quiet := by
  simp [State.whenEnabled, hb]

/-- A step of the sequencer or of time that is taken had its condition met. -/
theorem State.whenEnabled_next {s t : State} {b : Bool} {k : State → Result} (h : s.whenEnabled b k = .next t) :
    b = true ∧ k s.quiet = .next t := by
  unfold State.whenEnabled at h
  split at h
  · exact ⟨‹_›, h⟩
  · cases h

theorem State.indicesOk_iff (s : State) :
    s.indicesOk = true ↔ s.head < s.params.bufSlots ∧ s.tail < s.params.bufSlots := by
  simp [State.indicesOk]

theorem State.withIndices_of_inRange {s : State} (k : State → Result)
    (h : s.head < s.params.bufSlots ∧ s.tail < s.params.bufSlots) : s.withIndices k = k s := by
  simp [State.withIndices, (State.indicesOk_iff s).2 h]

theorem State.withIndices_next {s t : State} {k : State → Result} (h : s.withIndices k = .next t) :
    (s.head < s.params.bufSlots ∧ s.tail < s.params.bufSlots) ∧ k s = .next t := by
  unfold State.withIndices at h
  split at h
  · exact ⟨(State.indicesOk_iff s).1 ‹_›, h⟩
  · cases h

/-! ### The ring -/

/-- COUNT without the integers: the stored run, wrapped or not. -/
theorem State.count_eq {s : State} (hh : s.head < s.params.bufSlots) (ht : s.tail < s.params.bufSlots) :
    s.count = if s.head ≤ s.tail then s.tail - s.head else s.tail + s.params.bufSlots - s.head := by
  unfold State.count
  split
  · rename_i h
    rw [Int.emod_eq_of_lt (by omega) (by omega)]
    omega
  · rename_i h
    have : ((s.tail : Int) - s.head) % s.params.bufSlots =
        ((s.tail : Int) - s.head + s.params.bufSlots) % s.params.bufSlots := by simp
    rw [this, Int.emod_eq_of_lt (by omega) (by omega)]
    omega

theorem State.nextIndex_eq {s : State} {i : Nat} (h : i < s.params.bufSlots) :
    s.nextIndex i = if i + 1 = s.params.bufSlots then 0 else i + 1 := by
  unfold State.nextIndex
  split
  · rename_i h'; rw [h']; exact Nat.mod_self _
  · exact Nat.mod_eq_of_lt (by omega)

theorem State.nextIndex_lt {s : State} (i : Nat) (h : 0 < s.params.bufSlots) : s.nextIndex i < s.params.bufSlots :=
  Nat.mod_lt _ h

/-- Everything PUSH can do: drop the byte with the buffer as it was, or store it at TAIL. -/
theorem State.push_cases (s : State) (pe : Bool) (b : Byte) :
    (s.nextIndex s.tail = s.head ∧ s.push pe b = s.emit .bufferOverflow) ∨
    (s.nextIndex s.tail ≠ s.head ∧
      s.push pe b = { s.bufWrite s.tail pe b with tail := s.nextIndex s.tail, ev := some .rxDone }) := by
  unfold State.push State.full
  by_cases h : s.nextIndex s.tail = s.head <;> simp [h]

/-- A slot just written reads as the byte and flag written, and every other slot as before. -/
theorem State.bufByte_bufWrite (s : State) (i a : Nat) (pe : Bool) (b : Byte) :
    (s.bufWrite i pe b).bufByte a = if a = i then b else s.bufByte a := by
  simp only [State.bufByte, State.bufWrite, Memory.load_store]
  split <;> simp

theorem State.bufFlag_bufWrite (s : State) (i a : Nat) (pe : Bool) (b : Byte) :
    (s.bufWrite i pe b).bufFlag a = if a = i then pe else s.bufFlag a := by
  simp only [State.bufFlag, State.bufWrite, Memory.load_store]
  split <;> simp

/-! ### Frames -/

/-- A frame register after `X[k] <- d`, bit by bit. -/
theorem getLsbD_setBit (x : Frame) {k j : Nat} (hk : k < 11) (hj : j < 11) (d : Bool) :
    (setBit x k d).getLsbD j = if j = k then d else x.getLsbD j := by
  have one : (1#11 <<< k).getLsbD j = decide (j = k) := by
    rw [BitVec.getLsbD_shiftLeft, BitVec.getLsbD_one]
    by_cases h : j = k
    · simp [h, hk]
    · rcases Nat.lt_or_gt_of_ne h with hlt | hgt
      · simp [h, hlt]
      · simp [h, Nat.sub_ne_zero_of_lt hgt]
  cases d
  · simp only [setBit, Bool.false_eq_true, if_false, BitVec.getLsbD_and, BitVec.getLsbD_not, hj, one, decide_true,
      Bool.true_and]
    by_cases h : j = k <;> simp [h]
  · simp only [setBit, if_true, BitVec.getLsbD_or, one]
    by_cases h : j = k <;> simp [h]

theorem getLsbD_frameByte (x : Frame) {k : Nat} (hk : k < 8) : (frameByte x).getLsbD k = x.getLsbD (k + 1) := by
  simp [frameByte, hk, Nat.add_comm]

/-! ### The agents' offers -/

theorem State.offerEdge_of_qualifies {s : State} (v : Bool) (h1 : s.ien = true) (h2 : s.hclk = false) :
    s.offerEdge v = .run (.edge s.edgeKey v) s := by
  simp [State.offerEdge, State.qualifies, h1, h2]

theorem State.offerEdge_of_not_qualifies {s : State} (v : Bool) (h : s.ien = false ∨ s.hclk = true) :
    s.offerEdge v = .still s.quiet := by
  rcases h with h | h <;> simp [State.offerEdge, State.qualifies, h]

theorem State.offerSample_of_fall {s : State} (devDat : Bool) (h1 : s.ien = true) (h2 : s.hclk = false)
    (h3 : s.clkPrev = true) :
    s.offerSample false devDat = .run (.edge s.edgeKey devDat) { s with clkPrev := false } := by
  simp [State.offerSample, State.detects, State.qualifies, State.clockLine, h1, h2, h3]

theorem State.offerSample_of_no_fall {s : State} (devClk devDat : Bool)
    (h : s.ien = false ∨ s.hclk = true ∨ s.clkPrev = false ∨ devClk = true) :
    s.offerSample devClk devDat = .still ({ s with clkPrev := s.clockLine devClk } : State).quiet := by
  have : s.detects (s.clockLine devClk) = false := by
    rcases h with h | h | h | h <;> simp [State.detects, State.qualifies, State.clockLine, h]
    intro _ h1 _
    exact h1
  simp [State.offerSample, this]

/-! ### Urgency -/

/-- An urgent step is enabled exactly if one of the four conditions of R161 to R164 holds. -/
theorem State.urgentEnabled_iff (s : State) :
    s.urgentEnabled = true ↔
      ((s.seq = .rtsHold ∨ s.seq = .writeHold ∨ s.seq = .resetHold) ∧ s.holdCnt = 0) ∨
      (s.seq = .writeWait ∧ (s.txDone = true ∨ s.wdCnt = 0)) := by
  unfold State.urgentEnabled State.holdOver State.writeDoneEnabled State.timeoutEnabled
  cases s.seq <;> cases s.txDone <;> simp

/-- The step of the sequencer or of time that SEQ and its conditions select. -/
def State.seqInstr (s : State) : Instr :=
  if s.holdOver .rtsHold then .holdDoneRts
  else if s.holdOver .writeHold then .holdDoneWrite
  else if s.holdOver .resetHold then .resetDone
  else if s.writeDoneEnabled then .writeDone
  else if s.timeoutEnabled then .writeTimeout
  else .tick s.seq.code

/-- The sequencer's selector always decodes, to the urgent step that is enabled and else to TICK. -/
theorem State.decode_seqWord (s : State) : decode s.seqWord = .ok s.seqInstr := by
  unfold State.seqWord State.seqInstr State.holdOver State.writeDoneEnabled State.timeoutEnabled
  cases s.seq <;> cases s.txDone <;> by_cases h : s.holdCnt = 0 <;> by_cases w : s.wdCnt = 0 <;>
    simp [decode, decodeSeq, Sequencer.code, h, w]

end Sys2Proof.Machine
end

