-- ==== Sys2Proof/Laws/Exec.lean ====
section
/-! SUPPORT. Once, everything that exec can do when it answers a next state: `exec_next` turns an equation with exec into
one case of the relation `Took`, whose cases give the next state outright. -/

namespace Sys2Proof.Machine

/-- What an operation that is taken does, case by case: `Took s i t` says that operation `i` takes `s` to `t`. -/
inductive Took (s : State) : Instr → State → Prop
  | begin (a : Byte) : s.seq = .ready → Took s (.hostBegin a) { s with
      phase := .idle, rxShift := 0, rxPar := false, rxPe := false, rxPos := 0, txPar := false, txPos := 0,
      txDone := false, txNak := false, head := 0, tail := 0, hclk := false, hdat := false, ien := true,
      rsp := some { status := .ok, value := 0 }, ev := none }
  | available (a : Byte) : s.seq = .ready → Took s (.hostAvailable a) { s with
      rsp := some { status := .ok, value := BitVec.ofNat 9 s.count }, ev := none }
  | readEmpty (a : Byte) : s.seq = .ready → s.head = s.tail → Took s (.hostRead a) { s with
      rsp := some { status := .bufferEmpty, value := 0 }, ev := some .bufferEmpty }
  | readOldest (a : Byte) : s.seq = .ready → s.head < s.params.bufSlots → s.tail < s.params.bufSlots →
      s.head ≠ s.tail → Took s (.hostRead a) { s with
      head := s.nextIndex s.head, rsp := some { status := .ok, value := s.oldest }, ev := none }
  | write (a : Byte) : s.seq = .ready → s.phase = .idle → Took s (.hostWrite a) { s with
      txByte := a, phase := .rts, txPos := 0, txPar := false, txDone := false, txNak := false, hclk := true,
      holdCnt := s.params.holdTicks, wdCnt := s.params.watchdogTicks, seq := .writeHold, rsp := none, ev := none }
  | flush (g : BitVec 6) (tx rx clears : Bool) : s.seq = .ready →
      (clears = true → s.phase ≠ .rts ∧ s.phase ≠ .sending) → Took s (.hostFlush g tx rx) { s with
      head := if rx then 0 else s.head, tail := if rx then 0 else s.tail,
      txByte := if clears then 0 else s.txByte, txDone := if clears then false else s.txDone,
      txNak := if clears then false else s.txNak, rsp := some { status := .ok, value := 0 }, ev := none }
  | reset (a : Byte) : s.seq = .ready → Took s (.hostReset a) { s with
      phase := .idle, rxShift := 0, rxPar := false, rxPe := false, rxPos := 0, txPar := false, txPos := 0,
      txDone := false, txNak := false, head := 0, tail := 0, hclk := true, hdat := true,
      holdCnt := s.params.resetHoldTicks, seq := .resetHold, rsp := none, ev := none }
  | suspend (a : Byte) : s.seq = .ready → s.phase = .idle → Took s (.hostSuspend a) { s with
      hclk := true, phase := .suspended, rsp := some { status := .ok, value := 0 }, ev := none }
  | suspended (a : Byte) : s.seq = .ready → s.phase = .suspended → Took s (.hostSuspend a) { s with
      rsp := some { status := .ok, value := 0 }, ev := none }
  | resume (a : Byte) : s.seq = .ready → s.phase = .suspended → Took s (.hostResume a) { s with
      hclk := false, phase := .idle, rsp := some { status := .ok, value := 0 }, ev := none }
  | resumed (a : Byte) : s.seq = .ready → s.phase ≠ .suspended → Took s (.hostResume a) { s with
      rsp := some { status := .ok, value := 0 }, ev := none }
  | rts (a : Byte) : s.seq = .ready → s.phase = .idle → Took s (.hostRts a) { s with
      phase := .rts, txPos := 0, txPar := false, txDone := false, txNak := false, hclk := true,
      holdCnt := s.params.holdTicks, seq := .rtsHold, rsp := none, ev := none }
  | busy (i : Instr) : s.seq = .ready → s.phase ≠ .idle → contextOf i = .command → Took s i { s with
      rsp := some { status := .busBusy, value := 0 }, ev := some .busBusy }
  | reserved (i : Instr) : s.seq = .ready → contextOf i = .command → Took s i { s with
      rsp := some { status := .illegalCommand, value := 0 }, ev := some .illegalCommand }
  | rxStart (v : Bool) : s.ien = true → s.hclk = false → s.phase = .idle → s.sampled v = false →
      Took s (.rxStart v) { s with
      rxShift := 0, rxPar := false, rxPe := false, rxPos := 1, phase := .receiving, rsp := none, ev := some .rxStart }
  | rxMalformed (v : Bool) : s.ien = true → s.hclk = false → s.phase = .idle → s.sampled v = true →
      Took s (.rxStart v) { s with
      rxShift := 0, rxPar := false, rxPe := false, rxPos := 0, phase := .idle, rsp := none, ev := some .malformedStart }
  | rxData (i : Instr) (k : Pos) (d : Bool) : s.ien = true → s.hclk = false → s.phase = .receiving → s.rxPos = k →
      1 ≤ k.val → k.val ≤ 8 → contextOf i = .engine → (∀ v, i ≠ .rxStop v) → Took s i { s with
      rxShift := setBit s.rxShift k.val d, rxPar := s.rxPar ^^ d, rxPos := k + 1, rsp := none, ev := none }
  | rxParity (v : Bool) (d : Bool) (l : Option Label) : s.ien = true → s.hclk = false → s.phase = .receiving →
      s.rxPos = 9 → Took s (.rxParity v) { s with
      rxShift := setBit s.rxShift 9 d, rxPar := s.rxPar ^^ d, rxPe := !(s.rxPar ^^ d), rxPos := 10,
      rsp := none, ev := l }
  | rxDropped (v d : Bool) (l : Label) : s.ien = true → s.hclk = false → s.phase = .receiving → s.rxPos = 10 →
      Took s (.rxStop v) { s with
      rxShift := setBit s.rxShift 10 d, rxPos := 0, phase := .idle, rsp := none, ev := some l }
  | rxStored (v : Bool) : s.ien = true → s.hclk = false → s.phase = .receiving → s.rxPos = 10 →
      s.sampled v = true → s.head < s.params.bufSlots → s.tail < s.params.bufSlots → s.nextIndex s.tail ≠ s.head →
      Took s (.rxStop v) { s with
      rxShift := setBit s.rxShift 10 true, rxPos := 0, phase := .idle,
      buf := Memory.store s.buf s.tail (frameByte s.rxShift), bufPe := Memory.store s.bufPe s.tail s.rxPe,
      tail := s.nextIndex s.tail, rsp := none, ev := some .rxDone }
  | txFirst (v : Bool) : s.ien = true → s.hclk = false → (s.phase = .rts ∨ s.phase = .sending) → s.txPos = 0 →
      Took s (.txData0 v) { s with
      phase := .sending, hdat := !s.txByte.getLsbD 0, txPar := s.txPar ^^ s.txByte.getLsbD 0, txPos := 1,
      rsp := none, ev := some .txStart }
  | txData (i : Instr) (p : Pos) : s.ien = true → s.hclk = false → s.phase = .sending → s.txPos = p →
      1 ≤ p.val → p.val ≤ 7 → contextOf i = .engine → Took s i { s with
      phase := .sending, hdat := !s.txByte.getLsbD p.val, txPar := s.txPar ^^ s.txByte.getLsbD p.val,
      txPos := p + 1, rsp := none, ev := none }
  | txParity (v : Bool) : s.ien = true → s.hclk = false → s.phase = .sending → s.txPos = 8 →
      Took s (.txParity v) { s with hdat := s.txPar, txPos := 9, rsp := none, ev := none }
  | txStop (v : Bool) : s.ien = true → s.hclk = false → s.phase = .sending → s.txPos = 9 →
      Took s (.txStop v) { s with hdat := false, txPos := 10, rsp := none, ev := none }
  | txAck (v : Bool) : s.ien = true → s.hclk = false → s.phase = .sending → s.txPos = 10 →
      Took s (.txAck v) { s with
      txDone := true, txNak := s.sampled v, txPos := 0, phase := .idle,
      rsp := none, ev := some (if s.sampled v then .unacknowledged else .txDone) }
  | holdDoneRts : s.seq = .rtsHold → s.holdCnt = 0 → Took s .holdDoneRts { s with
      hdat := true, hclk := false, seq := .ready, rsp := some { status := .ok, value := 0 }, ev := none }
  | holdDoneWrite : s.seq = .writeHold → s.holdCnt = 0 → Took s .holdDoneWrite { s with
      hdat := true, hclk := false, seq := .writeWait, rsp := none, ev := none }
  | resetDone : s.seq = .resetHold → s.holdCnt = 0 → Took s .resetDone { s with
      hclk := false, hdat := false, seq := .ready, rsp := some { status := .ok, value := 0 }, ev := none }
  | writeDone : s.seq = .writeWait → s.txDone = true → Took s .writeDone { s with
      seq := .ready, rsp := some { status := if s.txNak then .unacknowledged else .ok, value := 0 }, ev := none }
  | writeTimeout : s.seq = .writeWait → s.txDone = false → s.wdCnt = 0 → Took s .writeTimeout { s with
      hdat := false, hclk := false, phase := .idle, txPos := 0, txPar := false, seq := .ready,
      rsp := some { status := .timeout, value := 0 }, ev := some .timeout }
  | tick (q : BitVec 3) : s.urgentEnabled = false → Took s (.tick q) { s.countDown with rsp := none, ev := none }

/-- An operation that is not taken although it answers: a command that waits, or an edge that does not qualify. -/
def Waits (s : State) (i : Instr) : Prop :=
  (contextOf i = .command ∧ s.seq ≠ .ready) ∨ (contextOf i = .engine ∧ (s.ien = false ∨ s.hclk = true))

theorem accept_took {s t : State} {i : Instr} {k : State → Result} (hc : contextOf i = .command)
    (h : s.accept k = .next t) (hk : s.seq = .ready → k s.quiet = .next t → Took s i t) :
    (Waits s i ∧ t = s.quiet) ∨ Took s i t := by
  rcases State.accept_next h with ⟨h1, h2⟩ | ⟨h1, h2⟩
  · exact .inr (hk h1 h2)
  · exact .inl ⟨.inl ⟨hc, h1⟩, h2⟩

theorem onEdge_took {s t : State} {i : Instr} {b : Bool} {k : State → Result} (hc : contextOf i = .engine)
    (h : s.onEdge b k = .next t)
    (hk : s.ien = true → s.hclk = false → b = true → k s.quiet = .next t → Took s i t) :
    (Waits s i ∧ t = s.quiet) ∨ Took s i t := by
  rcases State.onEdge_next h with ⟨h1, h2, h3, h4⟩ | ⟨h1, h2⟩
  · exact .inr (hk h1 h2 h3 h4)
  · exact .inl ⟨.inr ⟨hc, h1⟩, h2⟩

theorem rxDataAt_took {s t : State} {v : Bool} {k : Pos} {i : Instr} (hc : contextOf i = .engine)
    (hi : ∀ w, i ≠ .rxStop w) (hk : 1 ≤ k.val ∧ k.val ≤ 8) (h : rxDataAt k v s = .next t) :
    (Waits s i ∧ t = s.quiet) ∨ Took s i t := by
  refine onEdge_took hc h fun h1 h2 h3 h4 => ?_
  cases h4
  simp only [Bool.and_eq_true, decide_eq_true_eq] at h3
  exact .rxData i k (s.sampled v) h1 h2 h3.1 h3.2 hk.1 hk.2 hc hi

theorem txDataAt_took {s t : State} {p : Pos} {i : Instr} (hc : contextOf i = .engine)
    (hp : 1 ≤ p.val ∧ p.val ≤ 7) (h : txDataAt p s = .next t) :
    (Waits s i ∧ t = s.quiet) ∨ Took s i t := by
  refine onEdge_took hc h fun h1 h2 h3 h4 => ?_
  cases h4
  simp only [Bool.and_eq_true, decide_eq_true_eq] at h3
  exact .txData i p h1 h2 h3.1 h3.2 hp.1 hp.2 hc

theorem reservedCommand_took {s t : State} {i : Instr} (hc : contextOf i = .command)
    (h : reservedCommand s = .next t) : (Waits s i ∧ t = s.quiet) ∨ Took s i t := by
  refine accept_took hc h fun h1 h2 => ?_
  cases h2
  exact .reserved i h1 hc

theorem execRxStop_took {s t : State} {v : Bool} (h : execRxStop v s = .next t) :
    (Waits s (.rxStop v) ∧ t = s.quiet) ∨ Took s (.rxStop v) t := by
  refine onEdge_took rfl h fun h1 h2 h3 h4 => ?_
  simp only [Bool.and_eq_true, decide_eq_true_eq] at h3
  simp only at h4
  split at h4
  · rename_i hd
    obtain ⟨⟨ha, hb⟩, h4⟩ := State.withIndices_next h4
    simp only [Host.Outcome.next.injEq] at h4
    subst h4
    rcases State.push_cases { s.quiet with rxShift := setBit s.rxShift 10 (s.sampled v), rxPos := 0, phase := .idle }
      s.rxPe (frameByte s.rxShift) with ⟨_, hp⟩ | ⟨hn, hp⟩
    · exact hp ▸ .rxDropped v _ .bufferOverflow h1 h2 h3.1 h3.2
    · have hd' : s.sampled v = true := hd
      refine Eq.subst (motive := fun u => Took s (.rxStop v) u) ?_ (.rxStored v h1 h2 h3.1 h3.2 hd' ha hb hn)
      rw [hd'] at hp
      exact ((congrArg (fun d => State.push { s.quiet with
        rxShift := setBit s.rxShift 10 d, rxPos := 0, phase := .idle } s.rxPe (frameByte s.rxShift)) hd').trans hp).symm
  · cases h4
    exact .rxDropped v _ .frameError h1 h2 h3.1 h3.2

theorem execHostFlush_took {s t : State} {g : BitVec 6} {tx rx : Bool} (h : execHostFlush g tx rx s = .next t) :
    (Waits s (.hostFlush g tx rx) ∧ t = s.quiet) ∨ Took s (.hostFlush g tx rx) t := by
  refine accept_took (by rfl) h fun h1 h2 => ?_
  cases rx <;> simp only [if_true, Bool.false_eq_true, if_false, State.clearRing_phase, State.quiet_phase] at h2 <;>
  · split at h2
    · rename_i hx
      simp only [Bool.and_eq_true, Bool.not_eq_true', decide_eq_false_iff_not] at hx
      cases h2
      exact .flush g tx _ true h1 fun _ => ⟨hx.1.2, hx.2⟩
    · cases h2
      exact .flush g tx _ false h1 (by simp)

/-- Everything exec can do when it answers a next state. -/
theorem exec_next {i : Instr} {s t : State} (h : exec i s = .next t) :
    (Waits s i ∧ t = s.quiet) ∨ Took s i t := by
  cases i with
  | hostBegin a =>
    simp only [exec, execHostBegin] at h
    refine accept_took rfl h fun h1 h2 => ?_
    cases h2; exact .begin a h1
  | hostAvailable a =>
    simp only [exec, execHostAvailable] at h
    refine accept_took rfl h fun h1 h2 => ?_
    cases (State.withIndices_next h2).2; exact .available a h1
  | hostRead a =>
    simp only [exec, execHostRead] at h
    refine accept_took rfl h fun h1 h2 => ?_
    obtain ⟨⟨ha, hb⟩, h2⟩ := State.withIndices_next h2
    split at h2
    · cases h2; exact .readEmpty a h1 ‹_›
    · cases h2; exact .readOldest a h1 ha hb ‹_›
  | hostWrite a =>
    simp only [exec, execHostWrite] at h
    refine accept_took rfl h fun h1 h2 => ?_
    split at h2
    · cases h2; exact .write a h1 ‹_›
    · cases h2; exact .busy _ h1 ‹_› rfl
  | hostFlush g tx rx => exact execHostFlush_took h
  | hostReset a =>
    simp only [exec, execHostReset] at h
    refine accept_took rfl h fun h1 h2 => ?_
    cases h2; exact .reset a h1
  | hostSuspend a =>
    simp only [exec, execHostSuspend] at h
    refine accept_took rfl h fun h1 h2 => ?_
    split at h2
    · rename_i hp; cases h2; exact .suspend a h1 hp
    · rename_i hp; cases h2; exact .suspended a h1 hp
    all_goals
      rename_i hp
      cases h2
      exact .busy _ h1 (by rw [show s.phase = _ from hp]; simp) rfl
  | hostResume a =>
    simp only [exec, execHostResume] at h
    refine accept_took rfl h fun h1 h2 => ?_
    cases h2
    split
    · exact .resume a h1 ‹_›
    · exact .resumed a h1 ‹_›
  | hostRts a =>
    simp only [exec, execHostRts] at h
    refine accept_took rfl h fun h1 h2 => ?_
    split at h2
    · cases h2; exact .rts a h1 ‹_›
    · cases h2; exact .busy _ h1 ‹_› rfl
  | reserved9 a => exact reservedCommand_took rfl h
  | reservedA a => exact reservedCommand_took rfl h
  | reservedB a => exact reservedCommand_took rfl h
  | reservedC a => exact reservedCommand_took rfl h
  | reservedD a => exact reservedCommand_took rfl h
  | reservedE a => exact reservedCommand_took rfl h
  | reservedF a => exact reservedCommand_took rfl h
  | rxStart v =>
    simp only [exec, execRxStart] at h
    refine onEdge_took rfl h fun h1 h2 h3 h4 => ?_
    have h3 : s.phase = .idle := by simpa using h3
    split at h4
    · cases h4; exact .rxMalformed v h1 h2 h3 ‹_›
    · rename_i hd
      cases h4
      exact .rxStart v h1 h2 h3 (by simpa using (show ¬ s.sampled v = true from hd))
  | rxData1 v => exact rxDataAt_took rfl (by simp) (by decide) h
  | rxData2 v => exact rxDataAt_took rfl (by simp) (by decide) h
  | rxData3 v => exact rxDataAt_took rfl (by simp) (by decide) h
  | rxData4 v => exact rxDataAt_took rfl (by simp) (by decide) h
  | rxData5 v => exact rxDataAt_took rfl (by simp) (by decide) h
  | rxData6 v => exact rxDataAt_took rfl (by simp) (by decide) h
  | rxData7 v => exact rxDataAt_took rfl (by simp) (by decide) h
  | rxData8 v => exact rxDataAt_took rfl (by simp) (by decide) h
  | rxParity v =>
    simp only [exec, execRxParity] at h
    refine onEdge_took rfl h fun h1 h2 h3 h4 => ?_
    simp only [Bool.and_eq_true, decide_eq_true_eq] at h3
    cases h4
    split
    · exact .rxParity v (s.sampled v) (some .parityError) h1 h2 h3.1 h3.2
    · exact .rxParity v (s.sampled v) none h1 h2 h3.1 h3.2
  | rxStop v => exact execRxStop_took h
  | txData0 v =>
    simp only [exec, execTxData0] at h
    refine onEdge_took rfl h fun h1 h2 h3 h4 => ?_
    simp only [Bool.and_eq_true, Bool.or_eq_true, decide_eq_true_eq] at h3
    cases h4
    exact .txFirst v h1 h2 h3.1 h3.2
  | txData1 v => exact txDataAt_took rfl (by decide) h
  | txData2 v => exact txDataAt_took rfl (by decide) h
  | txData3 v => exact txDataAt_took rfl (by decide) h
  | txData4 v => exact txDataAt_took rfl (by decide) h
  | txData5 v => exact txDataAt_took rfl (by decide) h
  | txData6 v => exact txDataAt_took rfl (by decide) h
  | txData7 v => exact txDataAt_took rfl (by decide) h
  | txParity v =>
    simp only [exec, execTxParity] at h
    refine onEdge_took rfl h fun h1 h2 h3 h4 => ?_
    simp only [Bool.and_eq_true, decide_eq_true_eq] at h3
    cases h4
    show Took s _ { s with hdat := driveFor (!s.txPar), txPos := 9, rsp := none, ev := none }
    rw [show driveFor (!s.txPar) = s.txPar by simp [driveFor]]
    exact .txParity v h1 h2 h3.1 h3.2
  | txStop v =>
    simp only [exec, execTxStop] at h
    refine onEdge_took rfl h fun h1 h2 h3 h4 => ?_
    simp only [Bool.and_eq_true, decide_eq_true_eq] at h3
    cases h4; exact .txStop v h1 h2 h3.1 h3.2
  | txAck v =>
    simp only [exec, execTxAck] at h
    refine onEdge_took rfl h fun h1 h2 h3 h4 => ?_
    simp only [Bool.and_eq_true, decide_eq_true_eq] at h3
    cases h4; exact .txAck v h1 h2 h3.1 h3.2
  | holdDoneRts =>
    simp only [exec, execHoldDoneRts] at h
    obtain ⟨h1, h2⟩ := State.whenEnabled_next h
    simp only [State.holdOver, Bool.and_eq_true, decide_eq_true_eq] at h1
    cases h2; exact .inr (.holdDoneRts h1.1 h1.2)
  | holdDoneWrite =>
    simp only [exec, execHoldDoneWrite] at h
    obtain ⟨h1, h2⟩ := State.whenEnabled_next h
    simp only [State.holdOver, Bool.and_eq_true, decide_eq_true_eq] at h1
    cases h2; exact .inr (.holdDoneWrite h1.1 h1.2)
  | resetDone =>
    simp only [exec, execResetDone] at h
    obtain ⟨h1, h2⟩ := State.whenEnabled_next h
    simp only [State.holdOver, Bool.and_eq_true, decide_eq_true_eq] at h1
    cases h2; exact .inr (.resetDone h1.1 h1.2)
  | writeDone =>
    simp only [exec, execWriteDone] at h
    obtain ⟨h1, h2⟩ := State.whenEnabled_next h
    simp only [State.writeDoneEnabled, Bool.and_eq_true, decide_eq_true_eq] at h1
    cases h2; exact .inr (.writeDone h1.1 h1.2)
  | writeTimeout =>
    simp only [exec, execWriteTimeout] at h
    obtain ⟨h1, h2⟩ := State.whenEnabled_next h
    simp only [State.timeoutEnabled, Bool.and_eq_true, Bool.not_eq_true', decide_eq_true_eq] at h1
    cases h2; exact .inr (.writeTimeout h1.1.1 h1.1.2 h1.2)
  | tick q =>
    simp only [exec, execTick] at h
    obtain ⟨h1, h2⟩ := State.whenEnabled_next h
    simp only [Bool.and_eq_true, Bool.not_eq_true', decide_eq_true_eq] at h1
    cases h2; exact .inr (.tick q h1.2)

end Sys2Proof.Machine
end

