-- ==== Sys2Proof/Laws/PerInstr.lean ====
section
/-! SUPPORT. One lemma for each constructor of Instr: the encoder writes the bits that the operation's row of
spec/opcode_table.json fixes (its format, its mask and its match). -/

namespace Sys2Proof.Laws.TableRow

/-- The three formats of the table (spec/30_encoding.md). -/
inductive Format where
  | cmd12 | edgeKey7 | seq3
  deriving DecidableEq, Repr

/-- The format and the value of a selector, as the table numbers its bits; the operand `v` of an edge and the conditions
of a sequencer row are outside the word. -/
def wordOf : OpWord → Format × Nat
  | .cmd12 w => (.cmd12, w.toNat)
  | .edge key _ => (.edgeKey7, key.toNat)
  | .seq3 q _ _ _ => (.seq3, q.toNat)

/-- Format, mask and match of each row of the table. -/
def rowOf : Instr → Format × Nat × Nat
  | .hostBegin _ => (.cmd12, 0xF00, 0x000)
  | .hostAvailable _ => (.cmd12, 0xF00, 0x100)
  | .hostRead _ => (.cmd12, 0xF00, 0x200)
  | .hostWrite _ => (.cmd12, 0xF00, 0x300)
  | .hostFlush _ _ _ => (.cmd12, 0xF00, 0x400)
  | .hostReset _ => (.cmd12, 0xF00, 0x500)
  | .hostSuspend _ => (.cmd12, 0xF00, 0x600)
  | .hostResume _ => (.cmd12, 0xF00, 0x700)
  | .hostRts _ => (.cmd12, 0xF00, 0x800)
  | .reserved9 _ => (.cmd12, 0xF00, 0x900)
  | .reservedA _ => (.cmd12, 0xF00, 0xA00)
  | .reservedB _ => (.cmd12, 0xF00, 0xB00)
  | .reservedC _ => (.cmd12, 0xF00, 0xC00)
  | .reservedD _ => (.cmd12, 0xF00, 0xD00)
  | .reservedE _ => (.cmd12, 0xF00, 0xE00)
  | .reservedF _ => (.cmd12, 0xF00, 0xF00)
  | .rxStart _ => (.edgeKey7, 0x7F, 0x00)
  | .rxData1 _ => (.edgeKey7, 0x7F, 0x11)
  | .rxData2 _ => (.edgeKey7, 0x7F, 0x12)
  | .rxData3 _ => (.edgeKey7, 0x7F, 0x13)
  | .rxData4 _ => (.edgeKey7, 0x7F, 0x14)
  | .rxData5 _ => (.edgeKey7, 0x7F, 0x15)
  | .rxData6 _ => (.edgeKey7, 0x7F, 0x16)
  | .rxData7 _ => (.edgeKey7, 0x7F, 0x17)
  | .rxData8 _ => (.edgeKey7, 0x7F, 0x18)
  | .rxParity _ => (.edgeKey7, 0x7F, 0x19)
  | .rxStop _ => (.edgeKey7, 0x7F, 0x1A)
  | .txData0 _ => (.edgeKey7, 0x7F, 0x20)
  | .txData1 _ => (.edgeKey7, 0x7F, 0x31)
  | .txData2 _ => (.edgeKey7, 0x7F, 0x32)
  | .txData3 _ => (.edgeKey7, 0x7F, 0x33)
  | .txData4 _ => (.edgeKey7, 0x7F, 0x34)
  | .txData5 _ => (.edgeKey7, 0x7F, 0x35)
  | .txData6 _ => (.edgeKey7, 0x7F, 0x36)
  | .txData7 _ => (.edgeKey7, 0x7F, 0x37)
  | .txParity _ => (.edgeKey7, 0x7F, 0x38)
  | .txStop _ => (.edgeKey7, 0x7F, 0x39)
  | .txAck _ => (.edgeKey7, 0x7F, 0x3A)
  | .holdDoneRts => (.seq3, 0x7, 0x1)
  | .holdDoneWrite => (.seq3, 0x7, 0x2)
  | .resetDone => (.seq3, 0x7, 0x4)
  | .writeDone => (.seq3, 0x7, 0x3)
  | .writeTimeout => (.seq3, 0x7, 0x3)
  | .tick _ => (.seq3, 0x0, 0x0)

/-- The encoded selector has the format of the row, and its bits under the row's mask are the row's match. -/
def Statement (i : Instr) : Prop :=
  (wordOf (encode i)).1 = (rowOf i).1 ∧ (wordOf (encode i)).2 &&& (rowOf i).2.1 = (rowOf i).2.2

/-- A command word under the mask 0xF00 is its operation code, moved to bits 11:8. -/
theorem op_under_mask (op : BitVec 4) (arg : BitVec 8) : (op ++ arg).toNat &&& 0xF00 = op.toNat * 256 := by
  have h : ((op ++ arg) &&& 0xF00#12) = op ++ 0#8 := by
    ext i hi
    simp only [BitVec.getElem_and, BitVec.getElem_append]
    interval_cases i <;> simp
  have h2 := congrArg BitVec.toNat h
  rw [BitVec.toNat_and, BitVec.toNat_append, BitVec.toNat_append] at h2
  rw [BitVec.toNat_append]
  simpa [Nat.shiftLeft_eq] using h2

theorem hostBegin (a : Byte) : Statement (.hostBegin a) := ⟨rfl, op_under_mask _ _⟩

theorem hostAvailable (a : Byte) : Statement (.hostAvailable a) := ⟨rfl, op_under_mask _ _⟩

theorem hostRead (a : Byte) : Statement (.hostRead a) := ⟨rfl, op_under_mask _ _⟩

theorem hostWrite (a : Byte) : Statement (.hostWrite a) := ⟨rfl, op_under_mask _ _⟩

theorem hostFlush (g : BitVec 6) (tx rx : Bool) : Statement (.hostFlush g tx rx) := ⟨rfl, op_under_mask _ _⟩

theorem hostReset (a : Byte) : Statement (.hostReset a) := ⟨rfl, op_under_mask _ _⟩

theorem hostSuspend (a : Byte) : Statement (.hostSuspend a) := ⟨rfl, op_under_mask _ _⟩

theorem hostResume (a : Byte) : Statement (.hostResume a) := ⟨rfl, op_under_mask _ _⟩

theorem hostRts (a : Byte) : Statement (.hostRts a) := ⟨rfl, op_under_mask _ _⟩

theorem reserved9 (a : Byte) : Statement (.reserved9 a) := ⟨rfl, op_under_mask _ _⟩

theorem reservedA (a : Byte) : Statement (.reservedA a) := ⟨rfl, op_under_mask _ _⟩

theorem reservedB (a : Byte) : Statement (.reservedB a) := ⟨rfl, op_under_mask _ _⟩

theorem reservedC (a : Byte) : Statement (.reservedC a) := ⟨rfl, op_under_mask _ _⟩

theorem reservedD (a : Byte) : Statement (.reservedD a) := ⟨rfl, op_under_mask _ _⟩

theorem reservedE (a : Byte) : Statement (.reservedE a) := ⟨rfl, op_under_mask _ _⟩

theorem reservedF (a : Byte) : Statement (.reservedF a) := ⟨rfl, op_under_mask _ _⟩

theorem rxStart (v : Bool) : Statement (.rxStart v) := ⟨rfl, by cases v <;> decide⟩

theorem rxData1 (v : Bool) : Statement (.rxData1 v) := ⟨rfl, by cases v <;> decide⟩

theorem rxData2 (v : Bool) : Statement (.rxData2 v) := ⟨rfl, by cases v <;> decide⟩

theorem rxData3 (v : Bool) : Statement (.rxData3 v) := ⟨rfl, by cases v <;> decide⟩

theorem rxData4 (v : Bool) : Statement (.rxData4 v) := ⟨rfl, by cases v <;> decide⟩

theorem rxData5 (v : Bool) : Statement (.rxData5 v) := ⟨rfl, by cases v <;> decide⟩

theorem rxData6 (v : Bool) : Statement (.rxData6 v) := ⟨rfl, by cases v <;> decide⟩

theorem rxData7 (v : Bool) : Statement (.rxData7 v) := ⟨rfl, by cases v <;> decide⟩

theorem rxData8 (v : Bool) : Statement (.rxData8 v) := ⟨rfl, by cases v <;> decide⟩

theorem rxParity (v : Bool) : Statement (.rxParity v) := ⟨rfl, by cases v <;> decide⟩

theorem rxStop (v : Bool) : Statement (.rxStop v) := ⟨rfl, by cases v <;> decide⟩

theorem txData0 (v : Bool) : Statement (.txData0 v) := ⟨rfl, by cases v <;> decide⟩

theorem txData1 (v : Bool) : Statement (.txData1 v) := ⟨rfl, by cases v <;> decide⟩

theorem txData2 (v : Bool) : Statement (.txData2 v) := ⟨rfl, by cases v <;> decide⟩

theorem txData3 (v : Bool) : Statement (.txData3 v) := ⟨rfl, by cases v <;> decide⟩

theorem txData4 (v : Bool) : Statement (.txData4 v) := ⟨rfl, by cases v <;> decide⟩

theorem txData5 (v : Bool) : Statement (.txData5 v) := ⟨rfl, by cases v <;> decide⟩

theorem txData6 (v : Bool) : Statement (.txData6 v) := ⟨rfl, by cases v <;> decide⟩

theorem txData7 (v : Bool) : Statement (.txData7 v) := ⟨rfl, by cases v <;> decide⟩

theorem txParity (v : Bool) : Statement (.txParity v) := ⟨rfl, by cases v <;> decide⟩

theorem txStop (v : Bool) : Statement (.txStop v) := ⟨rfl, by cases v <;> decide⟩

theorem txAck (v : Bool) : Statement (.txAck v) := ⟨rfl, by cases v <;> decide⟩

theorem holdDoneRts : Statement .holdDoneRts := ⟨rfl, by decide⟩

theorem holdDoneWrite : Statement .holdDoneWrite := ⟨rfl, by decide⟩

theorem resetDone : Statement .resetDone := ⟨rfl, by decide⟩

theorem writeDone : Statement .writeDone := ⟨rfl, by decide⟩

theorem writeTimeout : Statement .writeTimeout := ⟨rfl, by decide⟩

theorem tick (q : BitVec 3) : Statement (.tick q) := ⟨rfl, by simp [wordOf, encode, rowOf]⟩

end Sys2Proof.Laws.TableRow
end

