-- ==== Sys2Proof/Laws/Step.lean ====
section
/-! SUPPORT. Once, everything that fetch and step can do. -/

namespace Sys2Proof.Machine

/-- A state that fetch hands to exec: the state before, with a turn and perhaps a command used up, and perhaps a new
sample of CLOCK. -/
structure SameBlock (s u : State) : Prop where
  eq : u = { s with agenda := u.agenda, cmds := u.cmds, clkPrev := u.clkPrev }

theorem SameBlock.refl (s : State) : SameBlock s s := ⟨rfl⟩

/-- Everything fetch can hand to exec: an edge that qualifies, a command with SEQ = READY, or a step of the sequencer or
of time. -/
theorem State.fetch_run {s u : State} {w : OpWord} (h : s.fetch = .run w u) :
    SameBlock s u ∧
    ((∃ v, w = .edge s.edgeKey v ∧ s.ien = true ∧ s.hclk = false) ∨
     (∃ c, w = .cmd12 c ∧ s.seq = .ready) ∨
     w = s.seqWord) := by
  have dflt : ∀ x : State, x.offerDefault = .run w u → SameBlock x u ∧
      ((∃ c, w = .cmd12 c ∧ x.seq = .ready) ∨ w = x.seqWord) := by
    intro x hx
    unfold State.offerDefault at hx
    split at hx
    · cases hx; exact ⟨⟨rfl⟩, .inr rfl⟩
    · split at hx
      · cases hx; exact ⟨⟨rfl⟩, .inr rfl⟩
      · split at hx
        · cases hx; exact ⟨⟨rfl⟩, .inl ⟨_, rfl, ‹_›⟩⟩
        · cases hx; exact ⟨⟨rfl⟩, .inr rfl⟩
  unfold State.fetch at h
  split at h
  · obtain ⟨h1, h2⟩ := dflt s h
    exact ⟨h1, .inr h2⟩
  · unfold State.offerEdge at h
    split at h
    · rename_i hq
      cases h
      simp only [State.qualifies, Bool.and_eq_true, Bool.not_eq_true'] at hq
      exact ⟨⟨rfl⟩, .inl ⟨_, rfl, hq⟩⟩
    · cases h
  · unfold State.offerSample at h
    simp only at h
    split at h
    · rename_i hq
      cases h
      simp only [State.detects, State.qualifies, Bool.and_eq_true, Bool.not_eq_true'] at hq
      exact ⟨⟨rfl⟩, .inl ⟨_, rfl, hq.1.1⟩⟩
    · cases h
  · unfold State.offerCommand at h
    split at h
    · cases h
    · split at h
      · cases h; exact ⟨⟨rfl⟩, .inr (.inl ⟨_, rfl, ‹_›⟩)⟩
      · cases h
  · unfold State.offerUrgent at h
    split at h
    · cases h; exact ⟨⟨rfl⟩, .inr (.inr rfl)⟩
    · cases h
  · split at h <;> cases h <;> exact ⟨⟨rfl⟩, .inr (.inr rfl)⟩
  · cases h

/-- Everything a turn that runs no operation can leave: the state before with the turn used up, the outputs cleared and
perhaps a new sample of CLOCK, or the power-on state. -/
theorem State.fetch_still {s t : State} (h : s.fetch = .still t) :
    (∃ u, SameBlock s u ∧ t = u.quiet) ∨
    (∃ rest, s.agenda = .powerOn :: rest ∧ t = { s with agenda := rest }.powerOn) := by
  unfold State.fetch at h
  split at h
  · unfold State.offerDefault at h
    split at h
    · cases h
    · split at h
      · cases h
      · split at h <;> cases h
  · unfold State.offerEdge at h
    split at h <;> cases h
    exact .inl ⟨_, ⟨rfl⟩, rfl⟩
  · unfold State.offerSample at h
    simp only at h
    split at h <;> cases h
    exact .inl ⟨_, ⟨rfl⟩, rfl⟩
  · unfold State.offerCommand at h
    split at h
    · cases h; exact .inl ⟨_, ⟨rfl⟩, rfl⟩
    · split at h <;> cases h
      exact .inl ⟨_, ⟨rfl⟩, rfl⟩
  · unfold State.offerUrgent at h
    split at h <;> cases h
    exact .inl ⟨_, ⟨rfl⟩, rfl⟩
  · split at h <;> cases h
  · cases h; exact .inr ⟨_, ‹_›, rfl⟩

/-- A state is faulted exactly when an index is outside the buffer and power-on is not next. -/
theorem State.faulted_iff (s : State) :
    s.faulted = true ↔ ¬ (s.head < s.params.bufSlots ∧ s.tail < s.params.bufSlots) ∧
      ∀ rest, s.agenda ≠ .powerOn :: rest := by
  have hp : (∀ rest, s.agenda ≠ .powerOn :: rest) ↔ s.agenda.head? ≠ some .powerOn := by
    cases s.agenda with
    | nil => simp
    | cons x xs =>
      simp only [List.head?_cons, ne_eq, Option.some.injEq, List.cons.injEq, not_and]
      exact ⟨fun h hx => h xs hx rfl, fun h _ hx => absurd hx h⟩
  rw [hp, ← State.indicesOk_iff]
  simp [State.faulted]

theorem State.not_faulted_of_inRange {s : State} (hh : s.head < s.params.bufSlots) (ht : s.tail < s.params.bufSlots) :
    s.faulted = false := by
  rw [Bool.eq_false_iff]
  exact fun h => (s.faulted_iff.1 h).1 ⟨hh, ht⟩

theorem State.not_faulted_of_powerOn {s : State} {rest : List Turn} (h : s.agenda = .powerOn :: rest) :
    s.faulted = false := by
  rw [Bool.eq_false_iff]
  exact fun hf => (s.faulted_iff.1 hf).2 rest h

theorem step_of_faulted {s : State} (h : s.faulted = true) : step s = .fault .noSuchSlot := by simp [step, h]

/-- A turn that selects an operation: step is exec of it. -/
theorem step_of_run {s t : State} {w : OpWord} {i : Instr} (hf : s.faulted = false) (h : s.fetch = .run w t)
    (hd : decode w = .ok i) : step s = exec i t := by simp [step, hf, h, hd]

/-- A turn that selects none: step leaves what fetch gives. -/
theorem step_of_still {s t : State} (hf : s.faulted = false) (h : s.fetch = .still t) : step s = .next t := by
  simp [step, hf, h]

/-- Everything step can do when it answers a next state. -/
theorem step_next {s t : State} (h : step s = .next t) :
    (∃ u, SameBlock s u ∧ t = u.quiet) ∨
    (∃ rest, s.agenda = .powerOn :: rest ∧ t = { s with agenda := rest }.powerOn) ∨
    (∃ u i, SameBlock s u ∧ exec i u = .next t) := by
  unfold step at h
  split at h
  · cases h
  split at h
  · rename_i hf
    cases h
    rcases State.fetch_still hf with h | h
    · exact .inl h
    · exact .inr (.inl h)
  · rename_i hf
    split at h
    · exact .inr (.inr ⟨_, _, (State.fetch_run hf).1, h⟩)
    · cases h

end Sys2Proof.Machine
end

