-- ==== Sys2Proof/Tests/Slice0.lean ====
section
/-! SUPPORT. Tests: the well-formedness smoke, every constructor's word written out from the spec, one or two single steps
for each operation with the expected values of spec/95_test_vectors.md and the rules' own examples, and for every
obligation that has hypotheses a concrete state that meets them. -/

namespace Sys2Proof.Tests

open Sys2Proof Sys2Proof.Machine

/-! ## Well-formedness -/

/-- SEQ = 5 is reserved (R92): TICK's row does not stand for it. -/
theorem test_tick_of_a_reserved_code_is_ill_formed : (Instr.tick 5#3).wellFormed = false := by decide

theorem test_tick_of_reset_hold_is_well_formed : (Instr.tick 4#3).wellFormed = true := by decide

/-! ## Decoding, words from spec/30_encoding.md R85 to R90 and the rows of spec/opcode_table.json -/

theorem test_decode_commands :
    decode (.cmd12 0b0000_00000000#12) = .ok (.hostBegin 0) ∧
    decode (.cmd12 0b0001_00000000#12) = .ok (.hostAvailable 0) ∧
    decode (.cmd12 0b0010_00000000#12) = .ok (.hostRead 0) ∧
    decode (.cmd12 0b0011_11110100#12) = .ok (.hostWrite 0xF4) ∧
    decode (.cmd12 0b0101_00000000#12) = .ok (.hostReset 0) ∧
    decode (.cmd12 0b0110_00000000#12) = .ok (.hostSuspend 0) ∧
    decode (.cmd12 0b0111_00000000#12) = .ok (.hostResume 0) ∧
    decode (.cmd12 0b1000_00000000#12) = .ok (.hostRts 0) := by decide

/-- R87: bit 0 of the selector is the receive side, bit 1 the transmit side, the rest is ignored. -/
theorem test_decode_flush :
    decode (.cmd12 0b0100_00000001#12) = .ok (.hostFlush 0 false true) ∧
    decode (.cmd12 0b0100_00000010#12) = .ok (.hostFlush 0 true false) ∧
    decode (.cmd12 0b0100_10000011#12) = .ok (.hostFlush 0b100000#6 true true) := by decide

theorem test_decode_reserved_commands :
    decode (.cmd12 0b1001_10101011#12) = .ok (.reserved9 0xAB) ∧
    decode (.cmd12 0b1010_00000000#12) = .ok (.reservedA 0) ∧
    decode (.cmd12 0b1011_00000000#12) = .ok (.reservedB 0) ∧
    decode (.cmd12 0b1100_00000000#12) = .ok (.reservedC 0) ∧
    decode (.cmd12 0b1101_00000000#12) = .ok (.reservedD 0) ∧
    decode (.cmd12 0b1110_00000000#12) = .ok (.reservedE 0) ∧
    decode (.cmd12 0b1111_00000000#12) = .ok (.reservedF 0) := by decide

theorem test_decode_receive_keys (v : Bool) :
    decode (.edge 0b000_0000#7 v) = .ok (.rxStart v) ∧
    decode (.edge 0b001_0001#7 v) = .ok (.rxData1 v) ∧
    decode (.edge 0b001_0010#7 v) = .ok (.rxData2 v) ∧
    decode (.edge 0b001_0011#7 v) = .ok (.rxData3 v) ∧
    decode (.edge 0b001_0100#7 v) = .ok (.rxData4 v) ∧
    decode (.edge 0b001_0101#7 v) = .ok (.rxData5 v) ∧
    decode (.edge 0b001_0110#7 v) = .ok (.rxData6 v) ∧
    decode (.edge 0b001_0111#7 v) = .ok (.rxData7 v) ∧
    decode (.edge 0b001_1000#7 v) = .ok (.rxData8 v) ∧
    decode (.edge 0b001_1001#7 v) = .ok (.rxParity v) ∧
    decode (.edge 0b001_1010#7 v) = .ok (.rxStop v) := by cases v <;> decide

theorem test_decode_transmit_keys (v : Bool) :
    decode (.edge 0b010_0000#7 v) = .ok (.txData0 v) ∧
    decode (.edge 0b011_0001#7 v) = .ok (.txData1 v) ∧
    decode (.edge 0b011_0010#7 v) = .ok (.txData2 v) ∧
    decode (.edge 0b011_0011#7 v) = .ok (.txData3 v) ∧
    decode (.edge 0b011_0100#7 v) = .ok (.txData4 v) ∧
    decode (.edge 0b011_0101#7 v) = .ok (.txData5 v) ∧
    decode (.edge 0b011_0110#7 v) = .ok (.txData6 v) ∧
    decode (.edge 0b011_0111#7 v) = .ok (.txData7 v) ∧
    decode (.edge 0b011_1000#7 v) = .ok (.txParity v) ∧
    decode (.edge 0b011_1001#7 v) = .ok (.txStop v) ∧
    decode (.edge 0b011_1010#7 v) = .ok (.txAck v) := by cases v <;> decide

theorem test_decode_sequencer_steps :
    decode (.seq3 0b001#3 true false true) = .ok .holdDoneRts ∧
    decode (.seq3 0b010#3 true false false) = .ok .holdDoneWrite ∧
    decode (.seq3 0b100#3 true true true) = .ok .resetDone ∧
    decode (.seq3 0b011#3 true true true) = .ok .writeDone ∧
    decode (.seq3 0b011#3 true false true) = .ok .writeTimeout ∧
    decode (.seq3 0b011#3 true false false) = .ok (.tick 3#3) ∧
    decode (.seq3 0b000#3 true true true) = .ok (.tick 0#3) := by decide

/-- Keys outside the table of R90 and the reserved codes of SEQ are rejected by name. -/
theorem test_decode_rejects :
    decode (.edge 0b000_0001#7 true) = .error (.unreachableKey 0x01#7) ∧
    decode (.edge 0b001_0000#7 true) = .error (.unreachableKey 0x10#7) ∧
    decode (.edge 0b001_1011#7 true) = .error (.unreachableKey 0x1B#7) ∧
    decode (.edge 0b100_0000#7 true) = .error (.unreachableKey 0x40#7) ∧
    decode (.seq3 0b101#3 true true true) = .error (.reservedSeq 5#3) := by decide

/-! ## States -/

/-- The state after BEGIN, before any edge (spec/95_test_vectors.md). -/
def begun : State := { State.reset with ien := true }

/-- Receiving, at position `n`. -/
def receivingAt (n : Pos) (x : Frame) (par pe : Bool) : State :=
  { begun with phase := .receiving, rxPos := n, rxShift := x, rxPar := par, rxPe := pe }

/-- Sending 0xF4 for a WRITE, at position `n` (vector C1). -/
def sendingAt (n : Pos) (par dat : Bool) : State :=
  { begun with phase := .sending, seq := .writeWait, txByte := 0xF4, txPos := n, txPar := par, hdat := dat,
               wdCnt := 1900 }

/-- A request pending after its hold, with the byte 0xF4 (vector C1). -/
def pending : State :=
  { begun with phase := .rts, seq := .writeWait, txByte := 0xF4, hdat := true, wdCnt := 1900 }

/-- During the clock-low hold of a WRITE (vector C1). -/
def holding (ticks : Nat) : State :=
  { begun with phase := .rts, seq := .writeHold, txByte := 0xF4, hclk := true, holdCnt := ticks,
               wdCnt := 1900 + ticks }

/-- One byte stored in slot 0. -/
def oneStored : State := { begun with tail := 1, buf := [(0, 0xAA)], bufPe := [(0, false)] }

/-- A buffer of four slots holding 0x22 and 0x33 in slots 1 and 2. -/
def fourSlots (head tail : Nat) : State :=
  { receivingAt 10 0x2AA true false with params := { Params.default with bufSlots := 4 }, head := head, tail := tail }

/-! ## The receive path: trace A15 of the frame 0xAA, and vectors B -/

/-- A15, edge 1; R104. -/
theorem test_rx_start :
    (nextState (exec (.rxStart false) begun)).map (fun t => (t.phase, t.rxPos, t.rxShift, t.ev)) =
      some (.receiving, 1, 0x000, some .rxStart) := by decide

/-- B5 and R104: the receive registers are cleared on this path too. -/
theorem test_rx_start_malformed :
    (nextState (exec (.rxStart true) { begun with rxShift := 0x754, rxPar := true, rxPe := true })).map (fun t => (t.phase, t.rxPos, t.rxShift, t.rxPar, t.rxPe, t.ev)) =
      some (.idle, 0, 0x000, false, false, some .malformedStart) := rfl

/-- A15, edge 2. -/
theorem test_rx_data1 :
    (nextState (exec (.rxData1 false) (receivingAt 1 0x000 false false))).map (fun t => (t.rxShift, t.rxPar, t.rxPos, t.phase, t.ev)) =
      some (0x000, false, 2, .receiving, none) := rfl

/-- A15, edge 3. -/
theorem test_rx_data2 :
    (nextState (exec (.rxData2 true) (receivingAt 2 0x000 false false))).map (fun t => (t.rxShift, t.rxPar, t.rxPos, t.phase, t.ev)) =
      some (0x004, true, 3, .receiving, none) := rfl

/-- A15, edge 4. -/
theorem test_rx_data3 :
    (nextState (exec (.rxData3 false) (receivingAt 3 0x004 true false))).map (fun t => (t.rxShift, t.rxPar, t.rxPos, t.phase, t.ev)) =
      some (0x004, true, 4, .receiving, none) := rfl

/-- A15, edge 5. -/
theorem test_rx_data4 :
    (nextState (exec (.rxData4 true) (receivingAt 4 0x004 true false))).map (fun t => (t.rxShift, t.rxPar, t.rxPos, t.phase, t.ev)) =
      some (0x014, false, 5, .receiving, none) := rfl

/-- A15, edge 6. -/
theorem test_rx_data5 :
    (nextState (exec (.rxData5 false) (receivingAt 5 0x014 false false))).map (fun t => (t.rxShift, t.rxPar, t.rxPos, t.phase, t.ev)) =
      some (0x014, false, 6, .receiving, none) := rfl

/-- A15, edge 7. -/
theorem test_rx_data6 :
    (nextState (exec (.rxData6 true) (receivingAt 6 0x014 false false))).map (fun t => (t.rxShift, t.rxPar, t.rxPos, t.phase, t.ev)) =
      some (0x054, true, 7, .receiving, none) := rfl

/-- A15, edge 8. -/
theorem test_rx_data7 :
    (nextState (exec (.rxData7 false) (receivingAt 7 0x054 true false))).map (fun t => (t.rxShift, t.rxPar, t.rxPos, t.phase, t.ev)) =
      some (0x054, true, 8, .receiving, none) := rfl

/-- A15, edge 9. -/
theorem test_rx_data8 :
    (nextState (exec (.rxData8 true) (receivingAt 8 0x054 true false))).map (fun t => (t.rxShift, t.rxPar, t.rxPos, t.phase, t.ev)) =
      some (0x154, false, 9, .receiving, none) := rfl

/-- A15, edge 10. -/
theorem test_rx_parity :
    (nextState (exec (.rxParity true) (receivingAt 9 0x154 false false))).map (fun t => (t.rxShift, t.rxPar, t.rxPe, t.rxPos, t.ev)) =
      some (0x354, true, false, 10, none) := rfl

/-- B1, edge 10. -/
theorem test_rx_parity_error :
    (nextState (exec (.rxParity false) (receivingAt 9 0x154 false false))).map (fun t => (t.rxShift, t.rxPar, t.rxPe, t.rxPos, t.ev)) =
      some (0x154, false, true, 10, some .parityError) := rfl

/-- A15, edge 11; R107. -/
theorem test_rx_stop_stores :
    (nextState (exec (.rxStop true) (receivingAt 10 0x354 true false))).map (fun t => (t.rxShift, t.phase, t.rxPos, t.tail, t.buf, t.bufPe, t.ev)) =
      some (0x754, .idle, 0, 1, [(0, 0xAA)], [(0, false)], some .rxDone) := rfl

/-- B1, edge 11: delivered with the flag. -/
theorem test_rx_stop_stores_the_error_flag :
    (nextState (exec (.rxStop true) (receivingAt 10 0x154 false true))).map (fun t => (t.rxShift, t.buf, t.bufPe, t.tail, t.ev)) =
      some (0x554, [(0, 0xAA)], [(0, true)], 1, some .rxDone) := rfl

/-- B3, edge 11. -/
theorem test_rx_stop_frame_error :
    (nextState (exec (.rxStop false) (receivingAt 10 0x354 true false))).map (fun t => (t.rxShift, t.phase, t.rxPos, t.tail, t.buf, t.ev)) =
      some (0x354, .idle, 0, 0, [], some .frameError) := rfl

/-- R141's first example, BUF_SLOTS = 4. -/
theorem test_rx_stop_overflow :
    (nextState (exec (.rxStop true) (fourSlots 0 3))).map (fun t => (t.phase, t.head, t.tail, t.buf, t.ev)) =
      some (.idle, 0, 3, [], some .bufferOverflow) := rfl

/-- R141's second example: the byte 0x55 goes to slot 3 and TAIL wraps. -/
theorem test_rx_stop_wraps :
    (nextState (exec (.rxStop true) (fourSlots 1 3))).map (fun t => (t.head, t.tail, t.buf, t.ev)) =
      some (1, 0, [(3, 0x55)], some .rxDone) := by decide

/-! ## The transmit path: trace C1 of WRITE 0xF4 -/

/-- C1, first edge. -/
theorem test_tx_data0 :
    (nextState (exec (.txData0 true) pending)).map (fun t => (t.phase, t.hdat, t.txPar, t.txPos, t.ev)) =
      some (.sending, true, false, 1, some .txStart) := rfl

/-- C1, edge 2. -/
theorem test_tx_data1 :
    (nextState (exec (.txData1 true) (sendingAt 1 false true))).map (fun t => (t.hdat, t.txPar, t.txPos, t.phase, t.ev)) =
      some (true, false, 2, .sending, none) := rfl

/-- C1, edge 3. -/
theorem test_tx_data2 :
    (nextState (exec (.txData2 true) (sendingAt 2 false true))).map (fun t => (t.hdat, t.txPar, t.txPos, t.phase, t.ev)) =
      some (false, true, 3, .sending, none) := rfl

/-- C1, edge 4. -/
theorem test_tx_data3 :
    (nextState (exec (.txData3 true) (sendingAt 3 true false))).map (fun t => (t.hdat, t.txPar, t.txPos, t.phase, t.ev)) =
      some (true, true, 4, .sending, none) := rfl

/-- C1, edge 5. -/
theorem test_tx_data4 :
    (nextState (exec (.txData4 true) (sendingAt 4 true true))).map (fun t => (t.hdat, t.txPar, t.txPos, t.phase, t.ev)) =
      some (false, false, 5, .sending, none) := rfl

/-- C1, edge 6. -/
theorem test_tx_data5 :
    (nextState (exec (.txData5 true) (sendingAt 5 false false))).map (fun t => (t.hdat, t.txPar, t.txPos, t.phase, t.ev)) =
      some (false, true, 6, .sending, none) := rfl

/-- C1, edge 7. -/
theorem test_tx_data6 :
    (nextState (exec (.txData6 true) (sendingAt 6 true false))).map (fun t => (t.hdat, t.txPar, t.txPos, t.phase, t.ev)) =
      some (false, false, 7, .sending, none) := rfl

/-- C1, edge 8. -/
theorem test_tx_data7 :
    (nextState (exec (.txData7 true) (sendingAt 7 false false))).map (fun t => (t.hdat, t.txPar, t.txPos, t.phase, t.ev)) =
      some (false, true, 8, .sending, none) := rfl

/-- C1, edge 9: par = 0 pulls DATA low. -/
theorem test_tx_parity :
    (nextState (exec (.txParity true) (sendingAt 8 true false))).map (fun t => (t.hdat, t.txPar, t.txPos, t.ev)) =
      some (true, true, 9, none) := by decide

/-- C1, edge 10. -/
theorem test_tx_stop :
    (nextState (exec (.txStop true) (sendingAt 9 true true))).map (fun t => (t.hdat, t.txPos, t.ev)) =
      some (false, 10, none) := by decide

/-- C1, edge 11. -/
theorem test_tx_ack :
    (nextState (exec (.txAck false) (sendingAt 10 true false))).map (fun t => (t.phase, t.txDone, t.txNak, t.txPos, t.txPar, t.ev)) =
      some (.idle, true, false, 0, true, some .txDone) := rfl

/-- C3, edge 11. -/
theorem test_tx_ack_not_acknowledged :
    (nextState (exec (.txAck true) (sendingAt 10 true false))).map (fun t => (t.phase, t.txDone, t.txNak, t.ev)) =
      some (.idle, true, true, some .unacknowledged) := by decide

/-! ## The host commands: the examples of R151 to R160, response words of R88 -/

/-- R151's example. -/
theorem test_begin :
    (nextState (exec (.hostBegin 0) { receivingAt 5 0x018 true true with head := 2, tail := 7, ien := false, txByte := 0x5A, wdCnt := 7 })).map (fun t => (t.phase, t.rxPos, t.rxShift, t.head, t.tail, t.ien, t.txByte, t.wdCnt, t.rspWord)) =
      some (.idle, 0, 0x000, 0, 0, true, 0x5A, 7, some 0x0000) := rfl

/-- R152's example. -/
theorem test_available :
    (nextState (exec (.hostAvailable 0) oneStored)).map (fun t => (t.rspWord, t.head, t.tail)) =
      some (some 0x0001, 0, 1) := by decide

/-- D3: BUF_SLOTS = 16, HEAD = 3, TAIL = 2. -/
theorem test_available_wrapped :
    (nextState (exec (.hostAvailable 0) { begun with head := 3, tail := 2 })).map (fun t => t.rspWord) = some (some 0x000F) := by decide

/-- R153's example. -/
theorem test_read :
    (nextState (exec (.hostRead 0) oneStored)).map (fun t => (t.rspWord, t.head, t.tail)) =
      some (some 0x00AA, 1, 1) := by decide

/-- R153's example, second READ. -/
theorem test_read_of_an_empty_buffer :
    (nextState (exec (.hostRead 0) { oneStored with head := 1 })).map (fun t => (t.rspWord, t.head, t.tail)) =
      some (some 0x0800, 1, 1) := by decide

/-- R154's example. -/
theorem test_write :
    (nextState (exec (.hostWrite 0xF4) begun)).map (fun t => (t.txByte, t.phase, t.hclk, t.hdat, t.holdCnt, t.wdCnt, t.seq, t.rsp)) =
      some (0xF4, .rts, true, false, 100, 2000, .writeHold, none) := rfl

/-- C7. -/
theorem test_write_refused :
    (nextState (exec (.hostWrite 0x77) (receivingAt 1 0x000 false false))).map (fun t => (t.rspWord, t.txByte, t.phase, t.seq)) =
      some (some 0x0C00, 0x00, .receiving, .ready) := by decide

/-- R155's example. -/
theorem test_flush_both :
    (nextState (exec (.hostFlush 0 true true) { begun with head := 5, tail := 9, txByte := 0xF4, txDone := true, txNak := true })).map (fun t => (t.head, t.tail, t.txByte, t.txDone, t.txNak, t.rspWord)) =
      some (0, 0, 0x00, false, false, some 0x0000) := rfl

/-- R155's example, PHASE = SENDING. -/
theorem test_flush_both_during_a_send :
    (nextState (exec (.hostFlush 0 true true) { sendingAt 2 false true with seq := .ready, head := 5, tail := 9, txByte := 0x5A })).map (fun t => (t.head, t.tail, t.txByte, t.txPos, t.rspWord)) =
      some (0, 0, 0x5A, 2, some 0x0000) := rfl

/-- R156's example. -/
theorem test_reset :
    (nextState (exec (.hostReset 0) { oneStored with txByte := 0xED })).map (fun t => (t.head, t.tail, t.hclk, t.hdat, t.holdCnt, t.seq, t.txByte, t.ien, t.rsp)) =
      some (0, 0, true, true, 100, .resetHold, 0xED, true, none) := rfl

/-- R157's example. -/
theorem test_suspend :
    (nextState (exec (.hostSuspend 0) oneStored)).map (fun t => (t.phase, t.hclk, t.head, t.tail, t.rspWord)) =
      some (.suspended, true, 0, 1, some 0x0000) := rfl

/-- R157's example, PHASE = RECEIVING. -/
theorem test_suspend_refused :
    (nextState (exec (.hostSuspend 0) (receivingAt 5 0x018 false false))).map (fun t => (t.rspWord, t.phase, t.rxPos, t.hclk)) =
      some (some 0x0C00, .receiving, 5, false) := by decide

/-- R158's example. -/
theorem test_resume :
    (nextState (exec (.hostResume 0) { begun with phase := .suspended, hclk := true })).map (fun t => (t.phase, t.hclk, t.rspWord)) =
      some (.idle, false, some 0x0000) := by decide

/-- R158: no effect in any other PHASE. -/
theorem test_resume_when_not_suspended :
    (nextState (exec (.hostResume 0) { begun with phase := .rts, hdat := true })).map (fun t => (t.phase, t.hclk, t.hdat, t.rspWord)) =
      some (.rts, false, true, some 0x0000) := by decide

/-- R159's example. -/
theorem test_rts :
    (nextState (exec (.hostRts 0) { begun with txByte := 0xF4, wdCnt := 7 })).map (fun t => (t.phase, t.hclk, t.holdCnt, t.wdCnt, t.seq, t.txByte, t.rsp)) =
      some (.rts, true, 100, 7, .rtsHold, 0xF4, none) := rfl

/-- P4, step 3. -/
theorem test_rts_refused :
    (nextState (exec (.hostRts 0) (receivingAt 5 0x018 false false))).map (fun t => (t.rspWord, t.phase, t.rxPos, t.rxShift)) =
      some (some 0x0C00, .receiving, 5, 0x018) := by decide

/-- E1. -/
theorem test_reserved_9 :
    (nextState (exec (.reserved9 0xAB) State.reset)).map (fun t => (t.rspWord, t.ien, t.phase)) =
      some (some 0x1E00, false, .idle) := by decide

/-- R160. -/
theorem test_reserved_a :
    (nextState (exec (.reservedA 0xAB) State.reset)).map (fun t => (t.rspWord, t.ien, t.phase)) =
      some (some 0x1E00, false, .idle) := by decide

/-- R160. -/
theorem test_reserved_b :
    (nextState (exec (.reservedB 0xAB) State.reset)).map (fun t => (t.rspWord, t.ien, t.phase)) =
      some (some 0x1E00, false, .idle) := by decide

/-- R160. -/
theorem test_reserved_c :
    (nextState (exec (.reservedC 0xAB) State.reset)).map (fun t => (t.rspWord, t.ien, t.phase)) =
      some (some 0x1E00, false, .idle) := by decide

/-- R160. -/
theorem test_reserved_d :
    (nextState (exec (.reservedD 0xAB) State.reset)).map (fun t => (t.rspWord, t.ien, t.phase)) =
      some (some 0x1E00, false, .idle) := by decide

/-- R160. -/
theorem test_reserved_e :
    (nextState (exec (.reservedE 0xAB) State.reset)).map (fun t => (t.rspWord, t.ien, t.phase)) =
      some (some 0x1E00, false, .idle) := by decide

/-- E1. -/
theorem test_reserved_f :
    (nextState (exec (.reservedF 0xAB) State.reset)).map (fun t => (t.rspWord, t.ien, t.phase)) =
      some (some 0x1E00, false, .idle) := by decide

/-- R150: an offered command waits while SEQ is not READY, with nothing changed. -/
theorem test_command_waits : exec (.hostBegin 0) (holding 5) = .next (holding 5) := rfl

/-! ## The sequencer and time: the examples of R161 to R165 -/

/-- E3. -/
theorem test_hold_done_rts :
    (nextState (exec .holdDoneRts { holding 0 with seq := .rtsHold })).map (fun t => (t.hclk, t.hdat, t.seq, t.phase, t.txPos, t.rspWord)) =
      some (false, true, .ready, .rts, 0, some 0x0000) := rfl

/-- R161's example. -/
theorem test_hold_done_write :
    (nextState (exec .holdDoneWrite (holding 0))).map (fun t => (t.hclk, t.hdat, t.seq, t.wdCnt, t.rsp)) =
      some (false, true, .writeWait, 1900, none) := rfl

/-- R156's example, last step. -/
theorem test_reset_done :
    (nextState (exec .resetDone { begun with seq := .resetHold, hclk := true, hdat := true })).map (fun t => (t.hclk, t.hdat, t.seq, t.rspWord)) =
      some (false, false, .ready, some 0x0000) := by decide

/-- R163's example. -/
theorem test_write_done :
    (nextState (exec .writeDone { begun with seq := .writeWait, txDone := true })).map (fun t => (t.seq, t.txDone, t.rspWord)) =
      some (.ready, true, some 0x0000) := by decide

/-- R163's example; a completed frame wins over the watchdog. -/
theorem test_write_done_not_acknowledged :
    (nextState (exec .writeDone { begun with seq := .writeWait, txDone := true, txNak := true, wdCnt := 0 })).map (fun t => (t.seq, t.txNak, t.rspWord)) =
      some (.ready, true, some 0x1000) := by decide

/-- C4. -/
theorem test_write_timeout :
    (nextState (exec .writeTimeout { pending with wdCnt := 0 })).map (fun t => (t.phase, t.hdat, t.hclk, t.txByte, t.seq, t.rspWord)) =
      some (.idle, false, false, 0xF4, .ready, some 0x0E00) := rfl

/-- R165's example. -/
theorem test_tick :
    (nextState (exec (.tick 2) (holding 100))).map (fun t => (t.holdCnt, t.wdCnt, t.seq, t.rsp)) =
      some (99, 1999, .writeHold, none) := by decide

/-- R165: with SEQ = READY a TICK changes nothing. -/
theorem test_tick_when_ready :
    (nextState (exec (.tick 0) { begun with wdCnt := 7 })).map (fun t => (t.holdCnt, t.wdCnt)) =
      some (0, 7) := by decide

/-- R166: TICK is not enabled while an urgent step is. -/
theorem test_tick_waits_for_the_urgent_step : exec (.tick 2) (holding 0) = .refused .notSelected := rfl

/-! ## The step -/

/-- B8 and R108: an edge while IEN = 0 changes nothing; the turn is used up. -/
theorem test_step_unqualified_edge :
    step { State.reset with agenda := [.edge false] } = .next State.reset := rfl

/-- E1 at port level: the word 0x9AB offered after power-on. -/
theorem test_step_offered_command :
    (nextState (step { State.reset with agenda := [.host], cmds := [0x9AB#12] })).map
      (fun t => (t.rspWord, t.cmds, t.agenda)) = some (some 0x1E00, [], []) := by decide

/-- R100: a sample that finds CLOCK low after a high one is an edge; the sample becomes CLKPREV. -/
theorem test_step_sample :
    (nextState (step { begun with agenda := [.sample false false] })).map (fun t => (t.phase, t.clkPrev, t.ev)) =
      some (.receiving, false, some .rxStart) := by decide

/-- R100: a second low sample is no edge. -/
theorem test_step_second_low_sample :
    (nextState (step { begun with clkPrev := false, agenda := [.sample false false] })).map
      (fun t => (t.phase, t.clkPrev, t.ev)) = some (.idle, false, none) := by decide

/-- R203: with no turn given, the urgent step comes before the command on offer, which waits. -/
theorem test_step_default_order :
    (nextState (step { holding 0 with cmds := [0x000#12] })).map (fun t => (t.seq, t.cmds)) =
      some (.writeWait, [0x000#12]) := by decide

/-- R166: a turn of time stays while the urgent step is taken. -/
theorem test_step_urgent_before_tick :
    (nextState (step { holding 0 with agenda := [.tick] })).map (fun t => (t.seq, t.wdCnt, t.agenda)) =
      some (.writeWait, 1900, [.tick]) := by decide

/-- R220: power-on. -/
theorem test_step_power_on :
    (nextState (step { sendingAt 3 true true with agenda := [.powerOn], clkPrev := false })).map
      (fun t => (t.phase, t.ien, t.txByte, t.clkPrev, t.seq, t.epoch)) =
      some (.idle, false, 0x00, true, .ready, 1) := by decide

/-- A state with an index outside the buffer is faulted (R48, U6), with time, the host or nobody next. -/
theorem test_index_out_of_range_faults_the_state :
    step { begun with head := 16, agenda := [.tick] } = .fault .noSuchSlot ∧
    step { begun with tail := 16, agenda := [.host], cmds := [0x000#12] } = .fault .noSuchSlot ∧
    step { begun with head := 16 } = .fault .noSuchSlot := ⟨rfl, rfl, rfl⟩

/-- Power-on gives HEAD and TAIL their values whatever they held (R220). -/
theorem test_power_on_recovers :
    (nextState (step { begun with head := 16, tail := 99, agenda := [.powerOn] })).map (fun t => (t.head, t.tail)) =
      some (0, 0) := by decide

/-- An index outside the buffer stops the primitives that read it (R48). -/
theorem test_index_out_of_range : exec (.hostRead 0) { begun with head := 16 } = .fault .noSuchSlot := rfl

/-- withFetchWord: the next step runs the word's operation, in each of the table's three formats. -/
theorem test_with_fetch_word :
    decodeTableWord 16 0x3F4 = some (.hostWrite 0xF4) ∧ decodeTableWord 8 0x1A = some (.rxStop false) ∧
    decodeTableWord 8 0x04 = some .resetDone ∧
    (nextState (step (State.reset.withFetchWord 16 0x3F4))).map (fun t => (t.seq, t.txByte)) =
      some (.writeHold, 0xF4) ∧
    (nextState (step (State.reset.withFetchWord 8 0x1A))).map (fun t => (t.phase, t.ev)) =
      some (.idle, some .frameError) ∧
    (nextState (step (State.reset.withFetchWord 8 0x3A))).map (fun t => (t.phase, t.txDone)) =
      some (.idle, true) ∧
    (nextState (step (State.reset.withFetchWord 8 0x04))).map (fun t => t.rspWord) = some (some 0x0000) := by decide

/-! ## Witnesses: for each obligation with hypotheses, states that meet them, one for each clause -/

theorem witness_DecodeOfEncodeIsIdentity : (Instr.tick 4#3).wellFormed = true := by decide

theorem witness_EncodeOfDecodeGivesTheWordBack :
    decode (.seq3 4#3 false true true) = .ok (.tick 4#3) ∧ decode (.edge 0x3A#7 true) = .ok (.txAck true) ∧
    (0x3A#7 : EdgeKey) ≠ 0x30#7 := by decide

theorem witness_StepRunsTheDecodedOperation :
    begun.IndicesInRange ∧ ({ begun with agenda := [.edge true] } : State).fetch = .run (.edge 0x00#7 true) begun ∧
    decode (.edge 0x00#7 true) = .ok (.rxStart true) := by decide

/-- Both clauses: a qualifying edge at the last position of a frame, and an edge with the clock held low. -/
theorem witness_EdgeRunsTheKeyedOperationOrNothing :
    let s : State := { receivingAt 10 0x354 true false with agenda := [.edge true] }
    let u : State := { holding 1 with agenda := [.edge true] }
    s.IndicesInRange ∧ u.IndicesInRange ∧ s.agenda = .edge true :: [] ∧ s.ien = true ∧ s.hclk = false ∧ decode (.edge s.edgeKey true) = .ok (.rxStop true) ∧
    u.agenda = .edge true :: [] ∧ u.hclk = true := by decide

theorem witness_ClockSampleDetectsAFall :
    let s : State := { begun with agenda := [.sample false false] }
    let u : State := { begun with agenda := [.sample true false] }
    s.IndicesInRange ∧ u.IndicesInRange ∧ s.agenda = .sample false false :: [] ∧ s.ien = true ∧ s.hclk = false ∧ s.clkPrev = true ∧
    decode (.edge s.edgeKey false) = .ok (.rxStart false) ∧ u.agenda = .sample true false :: [] := by decide

theorem witness_OfferedCommandRunsOrWaits :
    let s : State := { begun with agenda := [.host], cmds := [0xFFF#12] }
    let u : State := { holding 1 with agenda := [.host], cmds := [0x000#12] }
    s.IndicesInRange ∧ u.IndicesInRange ∧ s.agenda = .host :: [] ∧ s.cmds = 0xFFF#12 :: [] ∧ s.seq = .ready ∧
    decode (.cmd12 0xFFF#12) = .ok (.reservedF 0xFF) ∧
    u.agenda = .host :: [] ∧ u.cmds = 0x000#12 :: [] ∧ u.seq ≠ .ready := by decide

/-- One state for each of the seven clauses, at the boundary value 0 of the counters, and 1 for the clause of TICK. -/
theorem witness_UrgentStepComesBeforeTick :
    let f (s : State) : State := { s with agenda := [.tick] }
    (f { holding 0 with seq := .rtsHold }).seq = .rtsHold ∧ (f { holding 0 with seq := .rtsHold }).holdCnt = 0 ∧
    (f (holding 0)).seq = .writeHold ∧ (f (holding 0)).holdCnt = 0 ∧
    (f { begun with seq := .resetHold }).holdCnt = 0 ∧
    (f { begun with seq := .writeWait, txDone := true }).txDone = true ∧
    (f { pending with wdCnt := 0 }).seq = .writeWait ∧ (f { pending with wdCnt := 0 }).txDone = false ∧
    (f { pending with wdCnt := 0 }).wdCnt = 0 ∧
    (f { pending with wdCnt := 1 }).urgentEnabled = false ∧ (f (holding 1)).urgentEnabled = false ∧
    (f (holding 0)).urgentEnabled = true ∧ (f (holding 0)).agenda = .tick :: [] ∧ (f (holding 0)).IndicesInRange ∧
    (f { pending with wdCnt := 0 }).IndicesInRange ∧ (f { begun with seq := .resetHold }).IndicesInRange := by decide

theorem witness_AtMostOneUrgentStepIsEnabled :
    Instr.writeDone ∈ [Instr.holdDoneRts, .holdDoneWrite, .resetDone, .writeDone, .writeTimeout] ∧
    ∃ t, exec .writeDone { begun with seq := .writeWait, txDone := true } = .next t :=
  ⟨by decide, _, rfl⟩

theorem witness_PortOrderWithoutATurn :
    let c : State := { begun with cmds := [0x000#12] }
    (∃ t, exec .holdDoneWrite (holding 0) = .next t) ∧ (holding 0).agenda = [] ∧
    c.IndicesInRange ∧ (holding 0).IndicesInRange ∧ (holding 1).IndicesInRange ∧ c.agenda = [] ∧ c.urgentEnabled = false ∧ c.seq = .ready ∧ decode (.cmd12 0x000#12) = .ok (.hostBegin 0) ∧
    begun.urgentEnabled = false ∧ begun.cmds = [] ∧ (holding 1).urgentEnabled = false ∧ (holding 1).seq ≠ .ready :=
  ⟨⟨_, rfl⟩, by decide⟩

theorem witness_PowerOnResetsEveryRegister :
    ({ sendingAt 3 true true with agenda := [.powerOn] } : State).agenda = .powerOn :: [] := by decide

theorem witness_RxStartSamplesTheStartBit :
    begun.ien = true ∧ begun.hclk = false ∧ begun.phase = .idle ∧ (false && !begun.hdat) = false ∧
    (true && !begun.hdat) = true := by decide

/-- At the first and the last data position. -/
theorem witness_RxDataSamplesOneDataBit :
    let s := receivingAt 1 0 false false
    let u := receivingAt 8 0x154 false false
    s.ien = true ∧ s.hclk = false ∧ s.phase = .receiving ∧ s.rxPos.val = (0 : Fin 8).val + 1 ∧
    u.ien = true ∧ u.hclk = false ∧ u.phase = .receiving ∧ u.rxPos.val = (7 : Fin 8).val + 1 := by decide

theorem witness_RxParityChecksTheParityBit :
    let s := receivingAt 9 0x154 false false
    s.ien = true ∧ s.hclk = false ∧ s.phase = .receiving ∧ s.rxPos = 9 := by decide

theorem witness_RxStopDiscardsOnFrameError :
    let s := receivingAt 10 0x354 true false
    s.ien = true ∧ s.hclk = false ∧ s.phase = .receiving ∧ s.rxPos = 10 ∧ (false && !s.hdat) = false := by decide

theorem witness_RxStopStoresTheByte :
    let s := fourSlots 1 3
    s.ien = true ∧ s.hclk = false ∧ s.phase = .receiving ∧ s.rxPos = 10 ∧ (true && !s.hdat) = true ∧
    s.IndicesInRange ∧ (s.tail + 1) % s.params.bufSlots ≠ s.head := by decide

theorem witness_RxStopDropsOnOverflow :
    let s := fourSlots 0 3
    s.ien = true ∧ s.hclk = false ∧ s.phase = .receiving ∧ s.rxPos = 10 ∧ (true && !s.hdat) = true ∧
    s.IndicesInRange ∧ (s.tail + 1) % s.params.bufSlots = s.head := by decide

/-- With the store at the last slot, so that TAIL wraps. -/
theorem witness_EveryByteIsReceived :
    let s : State := { begun with agenda := edgeTurns (frameLevels 0xAA) ++ [.host], head := 1, tail := 15 }
    s.agenda = edgeTurns (frameLevels 0xAA) ++ [.host] ∧ s.ien = true ∧ s.hclk = false ∧ s.hdat = false ∧
    s.phase = .idle ∧ s.rxPos = 0 ∧ s.IndicesInRange ∧ (s.tail + 1) % s.params.bufSlots ≠ s.head := by decide

/-- In PHASE = RTS at position 0, and in SENDING at the first and the last position. -/
theorem witness_TxDataPresentsOneDataBit :
    pending.ien = true ∧ pending.hclk = false ∧ pending.txPos.val = (0 : Fin 8).val ∧ pending.phase = .rts ∧
    (sendingAt 1 false true).txPos.val = (1 : Fin 8).val ∧ (sendingAt 1 false true).phase = .sending ∧
    (sendingAt 7 false false).txPos.val = (7 : Fin 8).val ∧ (sendingAt 7 false false).phase = .sending ∧
    (sendingAt 7 false false).ien = true ∧ (sendingAt 7 false false).hclk = false := by decide

theorem witness_TxParityPresentsTheParityBit :
    let s := sendingAt 8 true false
    s.ien = true ∧ s.hclk = false ∧ s.phase = .sending ∧ s.txPos = 8 := by decide

theorem witness_TxStopReleasesData :
    let s := sendingAt 9 true true
    s.ien = true ∧ s.hclk = false ∧ s.phase = .sending ∧ s.txPos = 9 := by decide

theorem witness_TxAckRecordsTheAcknowledgment :
    let s := sendingAt 10 true false
    s.ien = true ∧ s.hclk = false ∧ s.phase = .sending ∧ s.txPos = 10 := by decide

theorem witness_EveryByteIsSent :
    let levels := List.replicate 10 true
    let s : State := { pending with agenda := edgeTurns (levels ++ [false]) ++ [.urgent] }
    s.IndicesInRange ∧ levels.length = 10 ∧ s.agenda = edgeTurns (levels ++ [false]) ++ [.urgent] ∧ s.phase = .rts ∧ s.seq = .writeWait ∧
    s.ien = true ∧ s.hclk = false ∧ s.hdat = true ∧ s.txPos = 0 ∧ s.txPar = false := by decide

/-- A full buffer's worth of bytes, starting at the last slot. -/
theorem witness_BufferIsFirstInFirstOut :
    let s : State := { begun with params := { Params.default with bufSlots := 4 }, head := 3, tail := 3 }
    s.IndicesInRange ∧ s.head = s.tail ∧ s.seq = .ready ∧
    [(false, (0x11 : Byte)), (true, 0x22), (false, 0x33)].length ≤ s.params.capacity := by decide

theorem witness_BeginInitialisesTheBlock : (receivingAt 5 0x018 false false).seq = .ready := by decide

theorem witness_AvailableReportsTheCount :
    let s : State := { begun with head := 3, tail := 2 }
    s.seq = .ready ∧ s.params.Ok ∧ s.IndicesInRange := by decide

theorem witness_ReadTakesTheOldestByte :
    oneStored.seq = .ready ∧ oneStored.IndicesInRange ∧ oneStored.head ≠ oneStored.tail ∧
    begun.seq = .ready ∧ begun.IndicesInRange ∧ begun.head = begun.tail := by decide

theorem witness_WriteStartsARequest :
    begun.seq = .ready ∧ begun.phase = .idle ∧ (receivingAt 1 0 false false).seq = .ready ∧
    (receivingAt 1 0 false false).phase ≠ .idle := by decide

theorem witness_RtsStartsARequest :
    begun.seq = .ready ∧ begun.phase = .idle ∧ (receivingAt 10 0 false false).seq = .ready ∧
    (receivingAt 10 0 false false).phase ≠ .idle := by decide

theorem witness_FlushClearsTheSelectedSides :
    oneStored.seq = .ready ∧ oneStored.phase ≠ .rts ∧ oneStored.phase ≠ .sending := by decide

theorem witness_ResetPullsBothLinesLow : (receivingAt 7 0x038 true false).seq = .ready := by decide

/-- One state for each clause. -/
theorem witness_SuspendPullsClockLow :
    let u : State := { begun with phase := .suspended, hclk := true }
    begun.seq = .ready ∧ begun.phase = .idle ∧ u.seq = .ready ∧ u.phase = .suspended ∧
    (receivingAt 5 0x018 false false).seq = .ready ∧ (receivingAt 5 0x018 false false).phase = .receiving := by decide

theorem witness_ResumeReleasesClock :
    let u : State := { begun with phase := .suspended, hclk := true }
    u.seq = .ready ∧ u.phase = .suspended ∧ begun.seq = .ready ∧ begun.phase ≠ .suspended := by decide

theorem witness_ReservedCommandsChangeNothing : begun.seq = .ready := by decide

theorem witness_RefusedCommandsCarryTheirLabel :
    ∃ t r, exec (.hostRead 0) begun = .next t ∧ t.rsp = some r ∧ r.status = .bufferEmpty := ⟨_, _, rfl, rfl, rfl⟩

/-- One state for each of the three holds, at the boundary value 0 of HOLDCNT. -/
theorem witness_HoldEndsByReleasingClock :
    let r : State := { holding 0 with seq := .rtsHold }
    let x : State := { begun with seq := .resetHold, hclk := true, hdat := true }
    r.holdCnt = 0 ∧ r.seq = .rtsHold ∧ (holding 0).holdCnt = 0 ∧ (holding 0).seq = .writeHold ∧
    x.holdCnt = 0 ∧ x.seq = .resetHold := by decide

theorem witness_WriteDoneReportsTheOutcome :
    let s : State := { begun with seq := .writeWait, txDone := true, txNak := true }
    s.seq = .writeWait ∧ s.txDone = true ∧ s.wdCnt = 0 := by decide

theorem witness_WriteTimeoutAbandonsTheSend :
    let s : State := { pending with wdCnt := 0 }
    s.seq = .writeWait ∧ s.txDone = false ∧ s.wdCnt = 0 := by decide

/-- At the last tick of a hold and of a watchdog, and with SEQ = READY. -/
theorem witness_TickCountsDown :
    ∀ s ∈ [holding 1, { pending with wdCnt := 1 }, begun],
      ¬((s.seq = .rtsHold ∨ s.seq = .writeHold ∨ s.seq = .resetHold) ∧ s.holdCnt = 0) ∧
      ¬(s.seq = .writeWait ∧ (s.txDone = true ∨ s.wdCnt = 0)) := by decide

/-- Two holds with one tick left, and one that is over. -/
theorem witness_HoldLastsExactlyItsTicks :
    let s : State := { holding 1 with seq := .rtsHold, agenda := [.tick, .urgent] }
    let u : State := { begun with seq := .resetHold, hclk := true, hdat := true, agenda := [.urgent] }
    let w : State := { holding 1 with agenda := [.tick, .urgent] }
    s.IndicesInRange ∧ u.IndicesInRange ∧ w.IndicesInRange ∧
    s.seq = .rtsHold ∧ s.agenda = tickTurns s.holdCnt ++ .urgent :: [] ∧ 0 < 1 ∧ 1 ≤ s.holdCnt ∧
    w.seq = .writeHold ∧ w.agenda = tickTurns w.holdCnt ++ .urgent :: [] ∧ 1 ≤ w.holdCnt ∧
    u.seq = .resetHold ∧ u.agenda = tickTurns u.holdCnt ++ .urgent :: [] := by decide

theorem witness_UnansweredWriteTimesOutExactly :
    let s : State := { begun with
      agenda := .host :: (tickTurns Params.default.watchdogTicks ++ .urgent :: []), cmds := [(0x3#4 ++ 0xF4#8 : CmdWord)] }
    s.params.Ok ∧ s.IndicesInRange ∧ s.seq = .ready ∧ s.phase = .idle ∧
    s.agenda = .host :: (tickTurns s.params.watchdogTicks ++ .urgent :: []) ∧
    s.cmds = [(0x3#4 ++ 0xF4#8 : CmdWord)] :=
  ⟨by decide, by decide, rfl, rfl, rfl, rfl⟩

/-- The range of the parameters: the defaults, and the least value of each. -/
theorem witness_InvariantsHoldAtReset :
    Params.default.Ok ∧
    Params.Ok { bufSlots := 2, holdTicks := 100, watchdogTicks := 101, resetHoldTicks := 1 } := by decide

/-- The invariants at power-on. -/
theorem witness_reset_inv : State.reset.Inv :=
  ⟨by decide, by decide, by decide, by decide, by decide, by decide, by decide, by decide, by decide, by decide,
    by decide, by decide, by decide⟩

/-- The invariants in the middle of a send (vector C1 after the fourth edge), as EveryStepKeepsTheInvariants,
PhaseChangesAreInTheTable and NothingStopsTheBlock assume. -/
theorem witness_EveryStepKeepsTheInvariants :
    (sendingAt 4 true true).Inv ∧ ∃ t, step { sendingAt 4 true true with agenda := [.edge true] } = .next t :=
  ⟨⟨by decide, by decide, by decide, by decide, by decide, by decide, by decide, by decide, by decide, by decide,
    by decide, by decide, by decide⟩, _, rfl⟩

theorem witness_NothingStopsTheBlock : State.Inv { sendingAt 4 true true with agenda := [.edge true] } :=
  ⟨by decide, by decide, by decide, by decide, by decide, by decide, by decide, by decide, by decide, by decide,
    by decide, by decide, by decide⟩

/-- In the middle of a receive frame (trace A15 after the ninth edge). -/
theorem witness_EveryStepKeepsTheReceivedFrame :
    (receivingAt 9 0x154 false false).Inv ∧ (receivingAt 9 0x154 false false).ReceiveShape ∧
    ∃ t, step { receivingAt 9 0x154 false false with agenda := [.edge true] } = .next t :=
  ⟨⟨by decide, by decide, by decide, by decide, by decide, by decide, by decide, by decide, by decide, by decide,
    by decide, by decide, by decide⟩, by decide, _, rfl⟩

theorem witness_EveryStepKeepsTheMemoryCanonical : oneStored.MemoryOk ∧ ∃ t, step oneStored = .next t :=
  ⟨by decide, _, rfl⟩

theorem witness_EveryStepKeepsStoredSlotsWritten :
    oneStored.Inv ∧ oneStored.StoredSlotsWritten ∧ oneStored.count = 1 ∧ ∃ t, step oneStored = .next t :=
  ⟨⟨by decide, by decide, by decide, by decide, by decide, by decide, by decide, by decide, by decide, by decide,
    by decide, by decide, by decide⟩,
    (fun j hj => by
      have h : j = 0 := by
        have : oneStored.count = 1 := by decide
        omega
      subst h; decide), by decide, _, rfl⟩

/-- A step that changes PHASE, from a state that meets the invariants. -/
theorem witness_PhaseChangesAreInTheTable :
    begun.Inv ∧ ∃ t, exec (.rxStart false) begun = .next t ∧ t.phase ≠ begun.phase :=
  ⟨⟨by decide, by decide, by decide, by decide, by decide, by decide, by decide, by decide, by decide, by decide,
    by decide, by decide, by decide⟩, _, rfl, by decide⟩

/-- One step of each context. -/
theorem witness_ContextsWriteTheirOwnRegisters :
    (∃ t, exec (.rxStart false) begun = .next t) ∧ contextOf (.rxStart false) = .engine ∧
    (∃ t, exec (.hostBegin 0) State.reset = .next t ∧ t.ien ≠ State.reset.ien) ∧ contextOf (.hostBegin 0) ≠ .engine ∧
    (∃ t, exec (.tick 0) begun = .next t) ∧ contextOf (.tick 0) = .time :=
  ⟨⟨_, rfl⟩, rfl, ⟨_, rfl, by decide⟩, by decide, ⟨_, rfl⟩, rfl⟩

theorem witness_TransmitRegisterIsSafeInFlight :
    pending.phase = .rts ∧ (∀ rest, pending.agenda ≠ .powerOn :: rest) ∧ ∃ t, step pending = .next t :=
  ⟨rfl, (fun _ h => nomatch h), _, rfl⟩

/-- A suspended block that reads a byte, and one that resumes. -/
theorem witness_OnlyThreeCommandsWakeTheBlock :
    let s : State := { begun with phase := .suspended, hclk := true, cmds := [0x700#12] }
    s.Inv ∧ s.phase = .suspended ∧ (∀ rest, s.agenda ≠ .powerOn :: rest) ∧
    ∃ t, step s = .next t ∧ t.phase = .idle :=
  ⟨⟨by decide, by decide, by decide, by decide, by decide, by decide, by decide, by decide, by decide, by decide,
    by decide, by decide, by decide⟩, rfl, (fun _ h => nomatch h), _, rfl, rfl⟩

/-- RESET with a reset hold of 2 ticks, an edge during the hold and one after it, from the middle of a send. -/
theorem witness_ResetThenBeginIsClean :
    let during : List Turn := [.tick, .edge false, .tick]
    let s : State := { sendingAt 4 true true with
      seq := .ready, params := { Params.default with resetHoldTicks := 2 }, cmds := [0x500#12, 0x000#12],
      agenda := .host :: (during ++ .urgent :: (edgeTurns [false] ++ .host :: [])) }
    s.Inv ∧ s.seq = .ready ∧ (∀ x ∈ during, x.inHold = true) ∧ ticksIn during = s.params.resetHoldTicks ∧
    s.agenda = .host :: (during ++ .urgent :: (edgeTurns [false] ++ .host :: [])) ∧ s.cmds = [0x500#12, 0x000#12] :=
  ⟨⟨by decide, by decide, by decide, by decide, by decide, by decide, by decide, by decide, by decide, by decide,
    by decide, by decide, by decide⟩, rfl, by decide, by decide, rfl, rfl⟩

/-- One fault; a refusal of each kind; and the premises under which a row that is not selected is refused. -/
theorem witness_StopsHaveTheirNames :
    exec (.hostRead 0) { begun with head := 16 } = .fault .noSuchSlot ∧
    exec (.rxStop true) begun = .refused .notSelected ∧
    exec .writeTimeout { pending with wdCnt := 1 } = .refused .notSelected ∧
    (contextOf (.rxStop true) = .engine ∧ begun.ien = true ∧ begun.hclk = false ∧ begun.PositionsMatchPhase ∧
      ∀ v, decode (.edge begun.edgeKey v) ≠ .ok (.rxStop true)) ∧
    (contextOf .writeTimeout = .sequencer ∧ decode (State.seqWord { pending with wdCnt := 1 }) ≠ .ok .writeTimeout) ∧
    contextOf (.tick 2) = .time ∧ decode (holding 0).seqWord ≠ .ok (.tick 2) :=
  ⟨rfl, rfl, rfl, by decide, by decide, by decide, by decide⟩

theorem witness_PowerOnLeavesTheInputsAlone :
    ({ begun with head := 16, agenda := [.powerOn, .tick], cmds := [0x000#12] } : State).agenda =
      .powerOn :: [.tick] := by decide

/-- Both faults of step: an index at BUF_SLOTS, and a key outside the table with the indices in range. -/
theorem witness_AnIndexOutsideTheBufferFaultsTheState :
    step { begun with tail := 16 } = .fault .noSuchSlot ∧
    step { begun with rxPos := 1, agenda := [.edge true] } = .fault (.undecodable (.unreachableKey 0x01#7)) :=
  ⟨rfl, rfl⟩

end Sys2Proof.Tests
end

section
/-! PROOFS. The receive path: a device edge at the level of step (R100, R108), the micro-operations RX_START, RX_DATA,
RX_PARITY and RX_STOP (R104 to R107), and the reception of one whole frame (R109). -/

namespace Sys2Proof.Machine

/-! ### Turns of the device and of the detector -/

theorem State.fetch_edge {s : State} {v : Bool} {rest : List Turn} (h : s.agenda = .edge v :: rest) :
    s.fetch = ({ s with agenda := rest } : State).offerEdge v := by
  simp [State.fetch, h]

theorem State.fetch_sample {s : State} {devClk devDat : Bool} {rest : List Turn}
    (h : s.agenda = .sample devClk devDat :: rest) :
    s.fetch = ({ s with agenda := rest } : State).offerSample devClk devDat := by
  simp [State.fetch, h]

/-- A qualifying edge: step runs the micro-operation that the key selects, the turn used up (R90, R100). -/
theorem step_edge_of_qualifies {s : State} {v : Bool} {rest : List Turn} {i : Instr} (hr : s.IndicesInRange)
    (ha : s.agenda = .edge v :: rest) (hi : s.ien = true) (hc : s.hclk = false)
    (hd : decode (.edge s.edgeKey v) = .ok i) : step s = exec i { s with agenda := rest } := by
  have hf : s.fetch = .run (.edge s.edgeKey v) { s with agenda := rest } :=
    (State.fetch_edge ha).trans (State.offerEdge_of_qualifies v hi hc)
  exact step_of_run (State.not_faulted_of_inRange hr.1 hr.2) hf hd

/-- An edge that does not qualify: the turn is used up and nothing else changes (R108). -/
theorem step_edge_of_not_qualifies {s : State} {v : Bool} {rest : List Turn} (hr : s.IndicesInRange)
    (ha : s.agenda = .edge v :: rest) (h : s.ien = false ∨ s.hclk = true) :
    step s = .next ({ s with agenda := rest } : State).quiet :=
  step_of_still (State.not_faulted_of_inRange hr.1 hr.2)
    ((State.fetch_edge ha).trans (State.offerEdge_of_not_qualifies v h))

/-- Settles O8: both kinds of edge, each by the offer that fetch makes of it. -/
theorem edgeRunsTheKeyedOperationOrNothing : Obligations.EdgeRunsTheKeyedOperationOrNothing := by
  intro s v rest hr ha
  exact ⟨fun hi hc _ hd => step_edge_of_qualifies hr ha hi hc hd, step_edge_of_not_qualifies hr ha⟩

/-- Settles O9: the detector either offers the keyed micro-operation or only remembers the sample. -/
theorem clockSampleDetectsAFall : Obligations.ClockSampleDetectsAFall := by
  intro s devClk devDat rest hr ha
  have hf := State.not_faulted_of_inRange hr.1 hr.2
  constructor
  · rintro hi hc hp rfl i hd
    exact step_of_run hf ((State.fetch_sample ha).trans (State.offerSample_of_fall devDat hi hc hp)) hd
  · intro h
    exact step_of_still hf ((State.fetch_sample ha).trans (State.offerSample_of_no_fall devClk devDat h))

/-! ### The micro-operations -/

/-- The sampled bit in the order of R101, `d = v & ~HDAT`. -/
theorem State.sampled_eq (s : State) (v : Bool) : s.sampled v = (v && !s.hdat) :=
  Bool.and_comm _ _

theorem State.sampled_of_released {s : State} (v : Bool) (h : s.hdat = false) : s.sampled v = v := by
  simp [State.sampled_eq, h]

theorem exec_rxStart (v : Bool) (s : State) : exec (.rxStart v) s = execRxStart v s := rfl

theorem exec_rxParity (v : Bool) (s : State) : exec (.rxParity v) s = execRxParity v s := rfl

theorem exec_rxStop (v : Bool) (s : State) : exec (.rxStop v) s = execRxStop v s := rfl

/-- The eight rows of RX_DATA share one meaning, at the position of the row (R105). -/
theorem exec_rxDataRow (k : Fin 8) (v : Bool) (s : State) :
    exec (rxDataRow k v) s = rxDataAt k.succ.castSucc.castSucc v s := by
  fin_cases k <;> rfl

/-- RX_START on a start bit (R104). -/
theorem exec_rxStart_of_low {s : State} {v : Bool} (hi : s.ien = true) (hc : s.hclk = false) (hp : s.phase = .idle)
    (hd : s.sampled v = false) :
    exec (.rxStart v) s = .next { s with
      rxShift := 0, rxPar := false, rxPe := false, rxPos := 1, phase := .receiving,
      rsp := none, ev := some .rxStart } := by
  have hq : ¬ s.quiet.sampled v = true := Bool.eq_false_iff.1 hd
  rw [exec_rxStart, execRxStart, State.onEdge_of_selected _ hi hc (decide_eq_true hp)]
  exact if_neg hq

/-- RX_START on a level that is no start bit (R104). -/
theorem exec_rxStart_of_high {s : State} {v : Bool} (hi : s.ien = true) (hc : s.hclk = false) (hp : s.phase = .idle)
    (hd : s.sampled v = true) :
    exec (.rxStart v) s = .next { s with
      rxShift := 0, rxPar := false, rxPe := false, rxPos := 0, phase := .idle,
      rsp := none, ev := some .malformedStart } := by
  have hq : s.quiet.sampled v = true := hd
  rw [exec_rxStart, execRxStart, State.onEdge_of_selected _ hi hc (decide_eq_true hp)]
  exact if_pos hq

theorem selected_of_receiving {s : State} {n : Pos} (hp : s.phase = .receiving) (hn : s.rxPos = n) :
    (decide (s.phase = .receiving) && decide (s.rxPos = n)) = true := by
  simp [hp, hn]

/-- RX_DATA at its position (R105). -/
theorem exec_rxDataRow_next {k : Fin 8} {s : State} (v : Bool) (hi : s.ien = true) (hc : s.hclk = false)
    (hp : s.phase = .receiving) (hn : s.rxPos.val = k.val + 1) :
    exec (rxDataRow k v) s = .next { s with
      rxShift := setBit s.rxShift (k.val + 1) (s.sampled v), rxPar := s.rxPar ^^ s.sampled v,
      rxPos := s.rxPos + 1, rsp := none, ev := none } := by
  have hk : s.rxPos = k.succ.castSucc.castSucc := Fin.ext hn
  rw [exec_rxDataRow, hk]
  exact State.onEdge_of_selected _ hi hc (selected_of_receiving hp hk)

/-- RX_PARITY at position 9 (R106). -/
theorem exec_rxParity_next {s : State} (v : Bool) (hi : s.ien = true) (hc : s.hclk = false)
    (hp : s.phase = .receiving) (hn : s.rxPos = 9) :
    exec (.rxParity v) s = .next { s with
      rxShift := setBit s.rxShift 9 (s.sampled v), rxPar := s.rxPar ^^ s.sampled v,
      rxPe := !(s.rxPar ^^ s.sampled v), rxPos := 10, rsp := none,
      ev := if s.rxPar ^^ s.sampled v then none else some .parityError } := by
  have hq : s.quiet.sampled v = s.sampled v := rfl
  rw [exec_rxParity, execRxParity, State.onEdge_of_selected _ hi hc (selected_of_receiving hp hn)]
  simp only [parityFails, accumulate, hq, State.quiet_rxPar]
  cases s.rxPar ^^ s.sampled v <;> rfl

/-- RX_STOP on a valid stop bit: the frame is over, and its byte and flag go to PUSH (R107). -/
theorem exec_rxStop_of_valid {s : State} {v : Bool} (hi : s.ien = true) (hc : s.hclk = false)
    (hp : s.phase = .receiving) (hn : s.rxPos = 10) (hd : s.sampled v = true) (hr : s.IndicesInRange) :
    exec (.rxStop v) s = .next (State.push { s with
      rxShift := setBit s.rxShift 10 true, rxPos := 0, phase := .idle, rsp := none, ev := none }
      s.rxPe (frameByte s.rxShift)) := by
  have hq : s.quiet.sampled v = true := hd
  rw [exec_rxStop, execRxStop, State.onEdge_of_selected _ hi hc (selected_of_receiving hp hn)]
  simp only [hq, if_true]
  exact State.withIndices_of_inRange _ hr

/-- PUSH with a slot free (R141). -/
theorem State.push_of_free {s : State} (pe : Bool) (b : Byte) (h : s.nextIndex s.tail ≠ s.head) :
    s.push pe b = { s.bufWrite s.tail pe b with tail := s.nextIndex s.tail, ev := some .rxDone } :=
  ((s.push_cases pe b).resolve_left fun hfull => h hfull.1).2

/-- Settles O16: the two levels of the start bit. -/
theorem rxStartSamplesTheStartBit : Obligations.RxStartSamplesTheStartBit := by
  intro v s hi hc hp
  rw [← State.sampled_eq]
  exact ⟨exec_rxStart_of_low hi hc hp, exec_rxStart_of_high hi hc hp⟩

/-- Settles O17: the shift register after the edge is `setBit` at the position of the row. -/
theorem rxDataSamplesOneDataBit : Obligations.RxDataSamplesOneDataBit := by
  intro k v s hi hc hp hn
  rw [← State.sampled_eq]
  exact ⟨setBit s.rxShift (k.val + 1) (s.sampled v), fun _ hj => getLsbD_setBit _ (by omega) hj _,
    exec_rxDataRow_next v hi hc hp hn⟩

/-- Settles O18: the shift register after the edge is `setBit` at position 9. -/
theorem rxParityChecksTheParityBit : Obligations.RxParityChecksTheParityBit := by
  intro v s hi hc hp hn
  rw [← State.sampled_eq]
  exact ⟨setBit s.rxShift 9 (s.sampled v), fun _ hj => getLsbD_setBit _ (by omega) hj _,
    exec_rxParity_next v hi hc hp hn⟩

/-! ### The keys of the receive path -/

theorem State.decode_edgeKey_idle {s : State} (v : Bool) (hp : s.phase = .idle) (hn : s.rxPos = 0) :
    decode (.edge s.edgeKey v) = .ok (.rxStart v) := by
  simp only [State.edgeKey, State.pos, hp, hn]
  rfl

theorem State.edgeKey_receiving {s : State} (hp : s.phase = .receiving) : s.edgeKey = keyOf .receiving s.rxPos := by
  simp only [State.edgeKey, State.pos, hp]

theorem State.decode_edgeKey_rxData {s : State} {k : Fin 8} (v : Bool) (hp : s.phase = .receiving)
    (hn : s.rxPos.val = k.val + 1) : decode (.edge s.edgeKey v) = .ok (rxDataRow k v) := by
  have hk : s.rxPos = k.succ.castSucc.castSucc := Fin.ext hn
  rw [State.edgeKey_receiving hp, hk]
  fin_cases k <;> rfl

theorem State.decode_edgeKey_rxParity {s : State} (v : Bool) (hp : s.phase = .receiving) (hn : s.rxPos = 9) :
    decode (.edge s.edgeKey v) = .ok (.rxParity v) := by
  rw [State.edgeKey_receiving hp, hn]
  rfl

theorem State.decode_edgeKey_rxStop {s : State} (v : Bool) (hp : s.phase = .receiving) (hn : s.rxPos = 10) :
    decode (.edge s.edgeKey v) = .ok (.rxStop v) := by
  rw [State.edgeKey_receiving hp, hn]
  rfl

/-! ### Runs -/

theorem runFor_succ {s t : State} (n : Nat) (h : step s = .next t) : runFor (n + 1) s = runFor n t := by
  have h' : Sys2Proof.core.step s = .next t := h
  simp only [runFor, Host.Core.run, h']
  rfl

/-- A run that ends in a next state took its first step. -/
theorem runFor_succ_next {n : Nat} {s t : State} (h : runFor (n + 1) s = .next t) :
    ∃ u, step s = .next u ∧ runFor n u = .next t := by
  simp only [runFor, Host.Core.run] at h
  split at h
  · exact ⟨_, ‹_›, h⟩
  · cases h
  · cases h

/-- A run goes on from where its first part ends. -/
theorem runFor_add {m : Nat} {s t : State} (n : Nat) (h : runFor m s = .next t) : runFor (m + n) s = runFor n t := by
  induction m generalizing s with
  | zero =>
    cases h
    rw [Nat.zero_add]
  | succ m ih =>
    obtain ⟨u, hs, hu⟩ := runFor_succ_next h
    rw [Nat.succ_add, runFor_succ _ hs, ih hu]

/-! ### The edges of a frame, with DATA released by the host, so that the sampled bit is the device's level -/

theorem step_rxStart_of_startBit {s : State} {rest : List Turn} (hr : s.IndicesInRange)
    (ha : s.agenda = .edge false :: rest) (hi : s.ien = true) (hc : s.hclk = false) (hp : s.phase = .idle)
    (hn : s.rxPos = 0) :
    step s = .next { s with
      agenda := rest, rxShift := 0, rxPar := false, rxPe := false, rxPos := 1, phase := .receiving,
      rsp := none, ev := some .rxStart } := by
  rw [step_edge_of_qualifies hr ha hi hc (State.decode_edgeKey_idle _ hp hn)]
  exact exec_rxStart_of_low hi hc hp (Bool.and_false _)

section Receiving

variable {s : State} {v : Bool} {rest : List Turn} (hr : s.IndicesInRange) (ha : s.agenda = .edge v :: rest)
  (hi : s.ien = true) (hc : s.hclk = false) (hdat : s.hdat = false) (hp : s.phase = .receiving)
include hr ha hi hc hdat hp

theorem step_rxData {k : Fin 8} (hn : s.rxPos.val = k.val + 1) :
    step s = .next { s with
      agenda := rest, rxShift := setBit s.rxShift (k.val + 1) v, rxPar := s.rxPar ^^ v, rxPos := s.rxPos + 1,
      rsp := none, ev := none } := by
  have hd : State.sampled { s with agenda := rest } v = v := State.sampled_of_released v hdat
  rw [step_edge_of_qualifies hr ha hi hc (State.decode_edgeKey_rxData v hp hn),
    exec_rxDataRow_next (s := { s with agenda := rest }) v hi hc hp hn, hd]

theorem step_rxParity (hn : s.rxPos = 9) :
    step s = .next { s with
      agenda := rest, rxShift := setBit s.rxShift 9 v, rxPar := s.rxPar ^^ v, rxPe := !(s.rxPar ^^ v), rxPos := 10,
      rsp := none, ev := if s.rxPar ^^ v then none else some .parityError } := by
  have hd : State.sampled { s with agenda := rest } v = v := State.sampled_of_released v hdat
  rw [step_edge_of_qualifies hr ha hi hc (State.decode_edgeKey_rxParity v hp hn),
    exec_rxParity_next (s := { s with agenda := rest }) v hi hc hp hn, hd]

theorem step_rxStop_of_valid (hn : s.rxPos = 10) (hv : v = true) :
    step s = .next (State.push { s with
      agenda := rest, rxShift := setBit s.rxShift 10 true, rxPos := 0, phase := .idle, rsp := none, ev := none }
      s.rxPe (frameByte s.rxShift)) := by
  rw [step_edge_of_qualifies hr ha hi hc (State.decode_edgeKey_rxStop v hp hn)]
  exact exec_rxStop_of_valid hi hc hp hn ((State.sampled_of_released v hdat).trans hv) hr

end Receiving

/-! ### One frame -/

/-- RXSHIFT when the start bit and the lowest `n` data bits of `b` have been sampled. -/
def sampledFrame (b : Byte) : Nat → Frame
  | 0 => 0
  | n + 1 => setBit (sampledFrame b n) (n + 1) (b.getLsbD n)

theorem getLsbD_sampledFrame (b : Byte) {k n : Nat} (hk : k < n) (hn : n ≤ 8) :
    (sampledFrame b n).getLsbD (k + 1) = b.getLsbD k := by
  induction n with
  | zero => omega
  | succ n ih =>
    rw [sampledFrame, getLsbD_setBit _ (by omega) (by omega)]
    by_cases h : k = n
    · simp [h]
    · simp only [Nat.add_right_cancel_iff, h, if_false]
      exact ih (by omega) (by omega)

/-- With all data bits sampled, RXSHIFT[8:1] is the byte, whatever the parity bit above it (R83). -/
theorem frameByte_sampledFrame (b : Byte) (p : Bool) : frameByte (setBit (sampledFrame b 8) 9 p) = b := by
  refine BitVec.eq_of_getLsbD_eq fun k hk => ?_
  rw [getLsbD_frameByte _ hk, getLsbD_setBit _ (by omega) (by omega), if_neg (by omega),
    getLsbD_sampledFrame b hk (Nat.le_refl 8)]

/-- `s` in the middle of the frame of `b`: the start bit and the lowest `n` data bits have been sampled, and the edges
of the other positions come before `rest`. -/
def State.midFrame (s : State) (b : Byte) (rest : List Turn) (n : Nat) : State :=
  { s with
    phase := .receiving, rxShift := sampledFrame b n, rxPar := parityOfLow b n, rxPe := false,
    rxPos := Fin.ofNat 11 (n + 1), agenda := edgeTurns ((frameLevels b).drop (n + 1)) ++ rest,
    rsp := none, ev := if n = 0 then some .rxStart else none }

/-- The frame of `b` with its parity bit sampled too: RXPAR is 1, so RXPE is 0, and only the stop edge is left. -/
def State.beforeStop (s : State) (b : Byte) (rest : List Turn) : State :=
  { s with
    phase := .receiving, rxShift := setBit (sampledFrame b 8) 9 (oddParityBit b), rxPar := true, rxPe := false,
    rxPos := 10, agenda := .edge true :: rest, rsp := none, ev := none }

/-- The frame of `b` received: the byte is in the slot of the old TAIL with its flag clear. -/
def State.frameReceived (s : State) (b : Byte) (rest : List Turn) : State :=
  { s.bufWrite s.tail false b with
    phase := .idle, rxShift := setBit (setBit (sampledFrame b 8) 9 (oddParityBit b)) 10 true, rxPar := true,
    rxPe := false, rxPos := 0, tail := s.nextIndex s.tail, agenda := rest, rsp := none, ev := some .rxDone }

/-- The next level after the start bit and `k` data bits is data bit `k` (R80). -/
theorem drop_frameLevels (b : Byte) (k : Fin 8) :
    (frameLevels b).drop (k.val + 1) = b.getLsbD k.val :: (frameLevels b).drop (k.val + 2) := by
  fin_cases k <;> rfl

/-- The odd-parity bit makes the accumulated parity 1 (R82, R106). -/
theorem parityOfLow_xor_oddParityBit (b : Byte) : (parityOfLow b 8 ^^ oddParityBit b) = true := by
  simp [oddParityBit]

section Frame

variable {s : State} (b : Byte) (rest : List Turn)

/-- The edge of the start bit. -/
theorem step_start_of_frame (ha : s.agenda = edgeTurns (frameLevels b) ++ rest) (hi : s.ien = true)
    (hc : s.hclk = false) (hp : s.phase = .idle) (hn : s.rxPos = 0) (hr : s.IndicesInRange) :
    step s = .next (s.midFrame b rest 0) :=
  step_rxStart_of_startBit hr ha hi hc hp hn

variable (hi : s.ien = true) (hc : s.hclk = false) (hdat : s.hdat = false) (hr : s.IndicesInRange)
include hi hc hdat hr

/-- The edge of data bit `k`. -/
theorem step_data_of_frame (k : Fin 8) : step (s.midFrame b rest k.val) = .next (s.midFrame b rest (k.val + 1)) := by
  have ha : (s.midFrame b rest k.val).agenda =
      .edge (b.getLsbD k.val) :: (edgeTurns ((frameLevels b).drop (k.val + 2)) ++ rest) :=
    congrArg (edgeTurns · ++ rest) (drop_frameLevels b k)
  have hn : (s.midFrame b rest k.val).rxPos.val = k.val + 1 := Nat.mod_eq_of_lt (by omega)
  have hnext : Fin.ofNat 11 (k.val + 1) + 1 = Fin.ofNat 11 (k.val + 2) := by fin_cases k <;> rfl
  rw [step_rxData (s := s.midFrame b rest k.val) hr ha hi hc hdat rfl hn]
  simp [State.midFrame, sampledFrame, parityOfLow, hnext, -Fin.ofNat_eq_cast]

/-- The edges of the lowest `n` data bits. -/
theorem runFor_data_of_frame {n : Nat} (hn : n ≤ 8) :
    runFor n (s.midFrame b rest 0) = .next (s.midFrame b rest n) := by
  induction n with
  | zero => rfl
  | succ n ih =>
    rw [runFor_add 1 (ih (by omega)), runFor_succ 0 (step_data_of_frame b rest hi hc hdat hr ⟨n, hn⟩)]
    rfl

/-- The edge of the parity bit. -/
theorem step_parity_of_frame : step (s.midFrame b rest 8) = .next (s.beforeStop b rest) := by
  rw [step_rxParity (s := s.midFrame b rest 8) hr rfl hi hc hdat rfl rfl]
  simp [State.midFrame, State.beforeStop, parityOfLow_xor_oddParityBit]

/-- The edge of the stop bit. -/
theorem step_stop_of_frame (hfree : s.nextIndex s.tail ≠ s.head) :
    step (s.beforeStop b rest) = .next (s.frameReceived b rest) := by
  rw [step_rxStop_of_valid (s := s.beforeStop b rest) hr rfl hi hc hdat rfl rfl rfl, State.push_of_free]
  · simp only [State.beforeStop, frameByte_sampledFrame]
    rfl
  · exact hfree

/-- The eleven edges of a frame, in its four parts (R109). -/
theorem runFor_frame (ha : s.agenda = edgeTurns (frameLevels b) ++ rest) (hp : s.phase = .idle) (hn : s.rxPos = 0)
    (hfree : s.nextIndex s.tail ≠ s.head) : runFor 11 s = .next (s.frameReceived b rest) :=
  calc runFor 11 s
    _ = runFor (8 + 2) (s.midFrame b rest 0) :=
      runFor_succ 10 (step_start_of_frame b rest ha hi hc hp hn hr)
    _ = runFor 2 (s.midFrame b rest 8) := runFor_add 2 (runFor_data_of_frame b rest hi hc hdat hr (Nat.le_refl 8))
    _ = runFor 1 (s.beforeStop b rest) := runFor_succ 1 (step_parity_of_frame b rest hi hc hdat hr)
    _ = .next (s.frameReceived b rest) := runFor_succ 0 (step_stop_of_frame b rest hi hc hdat hr hfree)

end Frame

/-- COUNT grows by one when TAIL moves on and the buffer was not full (R141, R143). -/
theorem State.count_of_tail_advanced {s t : State} (hr : s.IndicesInRange) (hfree : s.nextIndex s.tail ≠ s.head)
    (hparams : t.params = s.params) (hhead : t.head = s.head) (htail : t.tail = s.nextIndex s.tail) :
    t.count = s.count + 1 := by
  obtain ⟨hh, ht⟩ := hr
  have hlt : s.nextIndex s.tail < s.params.bufSlots := State.nextIndex_lt _ (by omega)
  rw [State.count_eq hh ht, State.count_eq (by rwa [hhead, hparams]) (by rwa [htail, hparams]), hhead, htail, hparams]
  rw [State.nextIndex_eq ht] at hfree ⊢
  split_ifs at hfree ⊢ <;> omega

/-- Settles O22: the run of the frame is computed (`runFor_frame`), and the slots and the count are read off its last
state. -/
theorem everyByteIsReceived : Obligations.EveryByteIsReceived := by
  intro b s rest ha hi hc hdat hp hn hr hfree
  have hbyte (a : Nat) : (s.frameReceived b rest).bufByte a = if a = s.tail then b else s.bufByte a :=
    s.bufByte_bufWrite s.tail a false b
  have hflag (a : Nat) : (s.frameReceived b rest).bufFlag a = if a = s.tail then false else s.bufFlag a :=
    s.bufFlag_bufWrite s.tail a false b
  refine ⟨s.frameReceived b rest, runFor_frame b rest hi hc hdat hr ha hp hn hfree, rfl, rfl, ?_, ?_,
    State.count_of_tail_advanced hr hfree rfl rfl rfl, rfl, rfl, fun a hne => ⟨?_, ?_⟩⟩
  · rw [hbyte, if_pos rfl]
  · rw [hflag, if_pos rfl]
  · rw [hbyte, if_neg hne]
  · rw [hflag, if_neg hne]

end Sys2Proof.Machine
end

section
/-! PROOFS. The transmit path: the micro-operations TX_DATA, TX_PARITY, TX_STOP and TX_ACK (R121 to R124), and the
sending of one whole frame (R125). -/

namespace Sys2Proof.Machine

/-! ### The bits of TXIMG (R84) -/

/-- Which part of `{1, p, byte, 0}` bit `i` of TXIMG falls in. -/
theorem getLsbD_txImage (b : Byte) (i : Nat) :
    (txImage b).getLsbD i =
      if i < 1 then (0#1).getLsbD i
      else if i - 1 < 8 then b.getLsbD (i - 1)
      else if i - 1 - 8 < 1 then (BitVec.ofBool (oddParityBit b)).getLsbD (i - 1 - 8)
      else (1#1).getLsbD (i - 1 - 8 - 1) := by
  change (1#1 ++ BitVec.ofBool (oddParityBit b) ++ b ++ 0#1 : BitVec (1 + 1 + 8 + 1)).getLsbD i = _
  simp only [BitVec.getLsbD_append]

theorem getLsbD_txImage_start (b : Byte) : (txImage b).getLsbD 0 = false :=
  getLsbD_txImage b 0

theorem getLsbD_txImage_data (b : Byte) {k : Nat} (hk : k < 8) : (txImage b).getLsbD (k + 1) = b.getLsbD k := by
  rw [getLsbD_txImage, if_neg (Nat.not_lt.2 (Nat.le_add_left 1 k)), Nat.add_sub_cancel, if_pos hk]

theorem getLsbD_txImage_parity (b : Byte) : (txImage b).getLsbD 9 = oddParityBit b := by
  rw [getLsbD_txImage]
  cases oddParityBit b <;> rfl

theorem getLsbD_txImage_stop (b : Byte) : (txImage b).getLsbD 10 = true :=
  getLsbD_txImage b 10

/-! ### The micro-operations -/

theorem exec_txData0 (v : Bool) (s : State) : exec (.txData0 v) s = execTxData0 v s := rfl

theorem exec_txParity (v : Bool) (s : State) : exec (.txParity v) s = execTxParity v s := rfl

theorem exec_txStop (v : Bool) (s : State) : exec (.txStop v) s = execTxStop v s := rfl

theorem exec_txAck (v : Bool) (s : State) : exec (.txAck v) s = execTxAck v s := rfl

theorem exec_writeDone (s : State) : exec .writeDone s = execWriteDone s := rfl

/-- The seven rows of TX_DATA above position 0 share one meaning, at the position of the row (R121). -/
theorem exec_txDataRow_succ (k : Fin 7) (v : Bool) (s : State) :
    exec (txDataRow k.succ v) s = txDataAt k.succ.castSucc.castSucc.castSucc s := by
  fin_cases k <;> rfl

theorem selected_of_sending {s : State} {n : Pos} (hp : s.phase = .sending) (hn : s.txPos = n) :
    (decide (s.phase = .sending) && decide (s.txPos = n)) = true := by
  simp [hp, hn]

/-- TX_DATA at position 0, in either phase (R121). -/
theorem exec_txData0_next {s : State} (v : Bool) (hi : s.ien = true) (hc : s.hclk = false)
    (hp : s.phase = .sending ∨ s.phase = .rts) (hn : s.txPos = 0) :
    exec (.txData0 v) s = .next ((presentBit 0 s.quiet).emit .txStart) := by
  rw [exec_txData0]
  exact State.onEdge_of_selected _ hi hc (by simp [hp.symm, hn])

/-- TX_DATA at its position (R121). -/
theorem exec_txDataRow_next {k : Fin 8} {s : State} (v : Bool) (hi : s.ien = true) (hc : s.hclk = false)
    (hn : s.txPos.val = k.val) (hp : s.phase = .sending ∨ (s.phase = .rts ∧ k.val = 0)) :
    exec (txDataRow k v) s = .next { s with
      phase := .sending, hdat := !s.txByte.getLsbD k.val, txPar := s.txPar ^^ s.txByte.getLsbD k.val,
      txPos := s.txPos + 1, rsp := none, ev := if k.val = 0 then some .txStart else none } := by
  cases k using Fin.cases with
  | zero =>
    have h0 : s.txPos = 0 := Fin.ext hn
    rw [h0]
    exact exec_txData0_next v hi hc (hp.imp_right And.left) h0
  | succ k =>
    have hk : s.txPos = k.succ.castSucc.castSucc.castSucc := Fin.ext hn
    have hs : s.phase = .sending := hp.resolve_right fun h => Nat.succ_ne_zero _ h.2
    rw [exec_txDataRow_succ, hk]
    exact State.onEdge_of_selected _ hi hc (selected_of_sending hs hk)

/-- TX_PARITY at position 8 (R122). -/
theorem exec_txParity_next {s : State} (v : Bool) (hi : s.ien = true) (hc : s.hclk = false)
    (hp : s.phase = .sending) (hn : s.txPos = 8) :
    exec (.txParity v) s = .next { s with hdat := s.txPar, txPos := 9, rsp := none, ev := none } := by
  rw [exec_txParity, execTxParity, State.onEdge_of_selected _ hi hc (selected_of_sending hp hn)]
  simp only [driveFor, Bool.not_not]
  rfl

/-- TX_STOP at position 9 (R123). -/
theorem exec_txStop_next {s : State} (v : Bool) (hi : s.ien = true) (hc : s.hclk = false)
    (hp : s.phase = .sending) (hn : s.txPos = 9) :
    exec (.txStop v) s = .next { s with hdat := false, txPos := 10, rsp := none, ev := none } := by
  rw [exec_txStop]
  exact State.onEdge_of_selected _ hi hc (selected_of_sending hp hn)

/-- TX_ACK at position 10 (R124). -/
theorem exec_txAck_next {s : State} (v : Bool) (hi : s.ien = true) (hc : s.hclk = false)
    (hp : s.phase = .sending) (hn : s.txPos = 10) :
    exec (.txAck v) s = .next { s with
      txDone := true, txNak := s.sampled v, txPos := 0, phase := .idle,
      rsp := none, ev := if s.sampled v then some .unacknowledged else some .txDone } := by
  have hq : s.quiet.sampled v = s.sampled v := rfl
  rw [exec_txAck, execTxAck, State.onEdge_of_selected _ hi hc (selected_of_sending hp hn)]
  simp only [hq]
  cases s.sampled v <;> rfl

/-- WRITE_DONE when the frame of the waiting WRITE has ended (R163). -/
theorem exec_writeDone_next {s : State} (hq : s.seq = .writeWait) (hd : s.txDone = true) :
    exec .writeDone s = .next { s with
      seq := .ready, rsp := some { status := if s.txNak then .unacknowledged else .ok, value := 0 },
      ev := none } := by
  rw [exec_writeDone]
  exact State.whenEnabled_of_enabled s _ (by simp [State.writeDoneEnabled, hq, hd])

/-- Settles O23: the rows at position 0 and above it, by `exec_txDataRow_next`. -/
theorem txDataPresentsOneDataBit : Obligations.TxDataPresentsOneDataBit :=
  fun _ v _ hi hc hn hp => exec_txDataRow_next v hi hc hn hp

/-- Settles O24: the complement of the complement of TXPAR is driven. -/
theorem txParityPresentsTheParityBit : Obligations.TxParityPresentsTheParityBit :=
  fun v _ hi hc hp hn => exec_txParity_next v hi hc hp hn

/-- Settles O25: the row is selected, and its writes are the statement's. -/
theorem txStopReleasesData : Obligations.TxStopReleasesData :=
  fun v _ hi hc hp hn => exec_txStop_next v hi hc hp hn

/-- Settles O26: the two levels of the sampled bit. -/
theorem txAckRecordsTheAcknowledgment : Obligations.TxAckRecordsTheAcknowledgment := by
  intro v s hi hc hp hn
  rw [← State.sampled_eq]
  exact exec_txAck_next v hi hc hp hn

/-! ### The keys of the transmit path -/

theorem State.edgeKey_sending {s : State} (hp : s.phase = .sending) : s.edgeKey = keyOf .sending s.txPos := by
  simp only [State.edgeKey, State.pos, hp]

theorem State.edgeKey_rts {s : State} (hp : s.phase = .rts) : s.edgeKey = keyOf .rts s.txPos := by
  simp only [State.edgeKey, State.pos, hp]

theorem State.decode_edgeKey_txData {s : State} {k : Fin 8} (v : Bool) (hn : s.txPos.val = k.val)
    (hp : s.phase = .sending ∨ (s.phase = .rts ∧ k.val = 0)) :
    decode (.edge s.edgeKey v) = .ok (txDataRow k v) := by
  have hk : s.txPos = k.castSucc.castSucc.castSucc := Fin.ext hn
  rcases hp with hp | ⟨hp, h0⟩
  · rw [State.edgeKey_sending hp, hk]
    fin_cases k <;> rfl
  · obtain rfl : k = 0 := Fin.ext h0
    rw [State.edgeKey_rts hp, hk]
    rfl

theorem State.decode_edgeKey_txParity {s : State} (v : Bool) (hp : s.phase = .sending) (hn : s.txPos = 8) :
    decode (.edge s.edgeKey v) = .ok (.txParity v) := by
  rw [State.edgeKey_sending hp, hn]
  rfl

theorem State.decode_edgeKey_txStop {s : State} (v : Bool) (hp : s.phase = .sending) (hn : s.txPos = 9) :
    decode (.edge s.edgeKey v) = .ok (.txStop v) := by
  rw [State.edgeKey_sending hp, hn]
  rfl

theorem State.decode_edgeKey_txAck {s : State} (v : Bool) (hp : s.phase = .sending) (hn : s.txPos = 10) :
    decode (.edge s.edgeKey v) = .ok (.txAck v) := by
  rw [State.edgeKey_sending hp, hn]
  rfl

/-! ### One frame -/

/-- `t` is reached from the pending request `s` and presents frame bit `n` on DATA, with `turns` still to come. TXPAR
holds the parity of the data bits that have been presented (R28, R84). -/
structure SendAt (s : State) (n : Nat) (turns : List Turn) (t : State) : Prop where
  agenda : t.agenda = turns
  inRange : t.IndicesInRange
  ien : t.ien = true
  hclk : t.hclk = false
  seq : t.seq = s.seq
  txByte : t.txByte = s.txByte
  phase : t.phase = .sending ∨ (t.phase = .rts ∧ n = 0)
  txPos : t.txPos.val = n
  txPar : t.txPar = parityOfLow s.txByte (min n 8)
  hdat : t.hdat = !(txImage s.txByte).getLsbD n

namespace SendAt

variable {s t : State} {v : Bool} {rest : List Turn}

theorem sending {n : Nat} (h : SendAt s (n + 1) rest t) : t.phase = .sending :=
  h.phase.resolve_right fun h0 => Nat.succ_ne_zero _ h0.2

theorem step_edge {n : Nat} {i : Instr} (h : SendAt s n (.edge v :: rest) t)
    (hd : decode (.edge t.edgeKey v) = .ok i) : step t = exec i { t with agenda := rest } :=
  step_edge_of_qualifies h.inRange h.agenda h.ien h.hclk hd

/-- The edge that presents data bit `k`, frame bit `k + 1`. -/
theorem step_data {k : Fin 8} (h : SendAt s k.val (.edge v :: rest) t) :
    ∃ u, step t = .next u ∧ SendAt s (k.val + 1) rest u := by
  refine ⟨_, (h.step_edge (State.decode_edgeKey_txData v h.txPos h.phase)).trans
    (exec_txDataRow_next v h.ien h.hclk h.txPos h.phase), ?_⟩
  have hpos : (t.txPos + 1).val = k.val + 1 := by
    rw [Fin.val_add_one_of_lt' (by have := h.txPos; omega), h.txPos]
  have hpar : (t.txPar ^^ t.txByte.getLsbD k.val) = parityOfLow s.txByte (min (k.val + 1) 8) := by
    rw [h.txPar, h.txByte, Nat.min_eq_left (by omega), Nat.min_eq_left (by omega), parityOfLow]
  have hbit : (!t.txByte.getLsbD k.val) = !(txImage s.txByte).getLsbD (k.val + 1) := by
    rw [h.txByte, getLsbD_txImage_data _ k.isLt]
  exact { h with agenda := rfl, phase := .inl rfl, txPos := hpos, txPar := hpar, hdat := hbit }

/-- The edge that presents the parity bit, frame bit 9. -/
theorem step_parity (h : SendAt s 8 (.edge v :: rest) t) : ∃ u, step t = .next u ∧ SendAt s 9 rest u := by
  have hn : t.txPos = 8 := Fin.ext h.txPos
  refine ⟨_, (h.step_edge (State.decode_edgeKey_txParity v h.sending hn)).trans
    (exec_txParity_next v h.ien h.hclk h.sending hn), ?_⟩
  have hbit : t.txPar = !(txImage s.txByte).getLsbD 9 := by
    rw [h.txPar, getLsbD_txImage_parity, oddParityBit, Bool.not_not, Nat.min_self]
  exact { h with agenda := rfl, phase := .inl h.sending, txPos := rfl, hdat := hbit }

/-- The edge that releases DATA, which is frame bit 10. -/
theorem step_stop (h : SendAt s 9 (.edge v :: rest) t) : ∃ u, step t = .next u ∧ SendAt s 10 rest u := by
  have hn : t.txPos = 9 := Fin.ext h.txPos
  refine ⟨_, (h.step_edge (State.decode_edgeKey_txStop v h.sending hn)).trans
    (exec_txStop_next v h.ien h.hclk h.sending hn), ?_⟩
  have hbit : false = !(txImage s.txByte).getLsbD 10 := by
    rw [getLsbD_txImage_stop, Bool.not_true]
  exact { h with agenda := rfl, phase := .inl h.sending, txPos := rfl, hdat := hbit }

/-- Each of the first ten edges moves on by one frame bit, whatever its level. -/
theorem step_next {n : Nat} (hn : n < 10) (h : SendAt s n (.edge v :: rest) t) :
    ∃ u, step t = .next u ∧ SendAt s (n + 1) rest u := by
  obtain hlt | rfl | rfl : n < 8 ∨ n = 8 ∨ n = 9 := by omega
  · exact step_data (k := ⟨n, hlt⟩) h
  · exact step_parity h
  · exact step_stop h

/-- A run over several of the first ten edges. -/
theorem runFor_edges {levels : List Bool} {n : Nat} (hn : n + levels.length ≤ 10)
    (h : SendAt s n (edgeTurns levels ++ rest) t) :
    ∃ u, runFor levels.length t = .next u ∧ SendAt s (n + levels.length) rest u := by
  induction levels generalizing n t with
  | nil => exact ⟨t, rfl, h⟩
  | cons v levels ih =>
    rw [List.length_cons] at hn ⊢
    obtain ⟨u, hstep, hu⟩ := step_next (by omega) h
    obtain ⟨w, hrun, hw⟩ := ih (by omega) hu
    rw [Nat.add_right_comm] at hw
    exact ⟨w, (runFor_succ _ hstep).trans hrun, hw⟩

/-- The last edge ends the frame with the device's level in TXNAK, since the host has released DATA (R124). -/
theorem step_ack (h : SendAt s 10 (.edge v :: rest) t) :
    step t = .next { t with
      agenda := rest, txDone := true, txNak := v, txPos := 0, phase := .idle,
      rsp := none, ev := if v then some .unacknowledged else some .txDone } := by
  have hn : t.txPos = 10 := Fin.ext h.txPos
  have hdat : t.hdat = false := by
    rw [h.hdat, getLsbD_txImage_stop, Bool.not_true]
  have hd : State.sampled { t with agenda := rest } v = v := State.sampled_of_released v hdat
  rw [h.step_edge (State.decode_edgeKey_txAck v h.sending hn),
    exec_txAck_next (s := { t with agenda := rest }) v h.ien h.hclk h.sending hn, hd]

end SendAt

theorem edgeTurns_append (xs ys : List Bool) : edgeTurns (xs ++ ys) = edgeTurns xs ++ edgeTurns ys :=
  List.map_append

/-- Settles O27: the first ten edges keep `SendAt`, and the eleventh finds DATA released. -/
theorem everyByteIsSent : Obligations.EveryByteIsSent := by
  intro s levels ack rest hlen ha hr hp _ hi hc hdat hn hpar
  have hstart : SendAt s 0 (edgeTurns levels ++ .edge ack :: rest) s :=
    { agenda := by simp [ha, edgeTurns], inRange := hr, ien := hi, hclk := hc, seq := rfl, txByte := rfl
      phase := .inr ⟨hp, rfl⟩, txPos := by rw [hn]; rfl, txPar := hpar
      hdat := by rw [hdat, getLsbD_txImage_start, Bool.not_false] }
  refine ⟨fun n hle => ?_, ?_⟩
  · have htake : (levels.take n).length = n := by rw [List.length_take, hlen, Nat.min_eq_left hle]
    rw [← List.take_append_drop n levels, edgeTurns_append, List.append_assoc] at hstart
    obtain ⟨t, hrun, ht⟩ := hstart.runFor_edges (by omega)
    rw [htake] at hrun ht
    rw [Nat.zero_add] at ht
    exact ⟨t, hrun, ht.hdat, ht.txByte⟩
  · obtain ⟨t, hrun, ht⟩ := hstart.runFor_edges (by omega)
    rw [hlen] at hrun ht
    refine ⟨_, (runFor_add 1 hrun).trans (runFor_succ 0 ht.step_ack), rfl, rfl, rfl, ?_, ht.hclk, ht.seq, rfl, ?_,
      fun hq hack => ?_⟩
    · exact ht.hdat.trans (by rw [getLsbD_txImage_stop, Bool.not_true])
    · cases ack <;> rfl
    · subst hack
      exact ⟨_, exec_writeDone_next (ht.seq.trans hq) rfl, rfl, rfl⟩

end Sys2Proof.Machine
end

section
/-! PROOFS. The ring buffer as the list of what it stores: PUSH appends to it and READ takes from its front
(R141 to R143, R153), so that the buffer is first in, first out (R145). -/

namespace Sys2Proof.Machine

/-! ### COUNT, and the two conditions it decides -/

theorem State.count_le_capacity {s : State} (hr : s.IndicesInRange) : s.count ≤ s.params.capacity := by
  obtain ⟨hh, ht⟩ := hr
  rw [State.count_eq hh ht, Params.capacity]
  split_ifs <;> omega

theorem State.count_eq_zero_iff {s : State} (hr : s.IndicesInRange) : s.count = 0 ↔ s.head = s.tail := by
  obtain ⟨hh, ht⟩ := hr
  rw [State.count_eq hh ht]
  split_ifs <;> omega

/-- A slot is free exactly when fewer than CAPACITY bytes are stored (R141). -/
theorem State.nextIndex_tail_ne_head_iff {s : State} (hr : s.IndicesInRange) :
    s.nextIndex s.tail ≠ s.head ↔ s.count < s.params.capacity := by
  obtain ⟨hh, ht⟩ := hr
  rw [State.count_eq hh ht, State.nextIndex_eq ht, Params.capacity]
  split_ifs <;> omega

/-! ### The stored run -/

/-- The slot of the `j`-th stored byte, the oldest being the 0-th. -/
def State.runIndex (s : State) (j : Nat) : Nat := (s.head + j) % s.params.bufSlots

theorem State.runIndex_zero {s : State} (hr : s.IndicesInRange) : s.runIndex 0 = s.head :=
  Nat.mod_eq_of_lt hr.1

/-- The stored run ends just before TAIL. -/
theorem State.runIndex_count {s : State} (hr : s.IndicesInRange) : s.runIndex s.count = s.tail := by
  obtain ⟨hh, ht⟩ := hr
  rw [State.runIndex, State.count_eq hh ht]
  split_ifs with hle
  · rw [Nat.add_sub_cancel' hle, Nat.mod_eq_of_lt ht]
  · rw [Nat.add_sub_cancel' (by omega), Nat.add_mod_right, Nat.mod_eq_of_lt ht]

/-- No stored byte is in the slot that PUSH writes. -/
theorem State.runIndex_ne_tail {s : State} (hr : s.IndicesInRange) {j : Nat} (hj : j < s.count) :
    s.runIndex j ≠ s.tail := by
  have hcap : s.count ≤ s.params.bufSlots - 1 := State.count_le_capacity hr
  rw [← State.runIndex_count hr]
  intro heq
  have hmod : j ≡ s.count [MOD s.params.bufSlots] := Nat.ModEq.add_left_cancel' s.head heq
  exact hj.ne (hmod.eq_of_lt_of_lt (by omega) (by omega))

/-- The flag and the byte in slot `i`. -/
def State.slot (s : State) (i : Nat) : Bool × Byte := (s.bufFlag i, s.bufByte i)

/-- What the buffer stores, the oldest first. -/
def State.contents (s : State) : List (Bool × Byte) := (List.range s.count).map fun j => s.slot (s.runIndex j)

theorem State.length_contents (s : State) : s.contents.length = s.count := by
  rw [State.contents, List.length_map, List.length_range]

theorem State.contents_eq_nil_iff {s : State} (hr : s.IndicesInRange) : s.contents = [] ↔ s.head = s.tail := by
  rw [← List.length_eq_zero_iff, State.length_contents, State.count_eq_zero_iff hr]

/-! ### PUSH -/

@[simp] theorem State.push_head (s : State) (pe : Bool) (b : Byte) : (s.push pe b).head = s.head := by
  rcases s.push_cases pe b with ⟨-, h⟩ | ⟨-, h⟩ <;> rw [h] <;> rfl

@[simp] theorem State.push_params (s : State) (pe : Bool) (b : Byte) : (s.push pe b).params = s.params := by
  rcases s.push_cases pe b with ⟨-, h⟩ | ⟨-, h⟩ <;> rw [h] <;> rfl

@[simp] theorem State.push_seq (s : State) (pe : Bool) (b : Byte) : (s.push pe b).seq = s.seq := by
  rcases s.push_cases pe b with ⟨-, h⟩ | ⟨-, h⟩ <;> rw [h] <;> rfl

theorem State.push_indicesInRange {s : State} (hr : s.IndicesInRange) (pe : Bool) (b : Byte) :
    (s.push pe b).IndicesInRange := by
  rcases s.push_cases pe b with ⟨-, h⟩ | ⟨-, h⟩ <;> rw [h]
  · exact hr
  · exact ⟨hr.1, State.nextIndex_lt _ (Nat.zero_lt_of_lt hr.1)⟩

/-- PUSH with a slot free writes the slot at TAIL and no other. -/
theorem State.slot_push {s : State} (hfree : s.nextIndex s.tail ≠ s.head) (pe : Bool) (b : Byte) (i : Nat) :
    (s.push pe b).slot i = if i = s.tail then (pe, b) else s.slot i := by
  rw [State.push_of_free pe b hfree]
  change ((s.bufWrite s.tail pe b).bufFlag i, (s.bufWrite s.tail pe b).bufByte i) = _
  rw [State.bufFlag_bufWrite, State.bufByte_bufWrite]
  split_ifs <;> rfl

theorem State.count_push {s : State} (hr : s.IndicesInRange) (hfree : s.nextIndex s.tail ≠ s.head)
    (pe : Bool) (b : Byte) : (s.push pe b).count = s.count + 1 :=
  State.count_of_tail_advanced hr hfree (s.push_params pe b) (s.push_head pe b)
    (congrArg State.tail (State.push_of_free pe b hfree))

/-- PUSH with a slot free appends to what the buffer stores (R141). -/
theorem State.contents_push {s : State} (hr : s.IndicesInRange) (hfree : s.nextIndex s.tail ≠ s.head)
    (pe : Bool) (b : Byte) : (s.push pe b).contents = s.contents ++ [(pe, b)] := by
  have hidx (j : Nat) : (s.push pe b).runIndex j = s.runIndex j := by
    simp only [State.runIndex, State.push_head, State.push_params]
  have hold : ∀ j ∈ List.range s.count, (s.push pe b).slot (s.runIndex j) = s.slot (s.runIndex j) := fun j hj => by
    rw [State.slot_push hfree, if_neg (State.runIndex_ne_tail hr (List.mem_range.1 hj))]
  have hnew : (s.push pe b).slot (s.runIndex s.count) = (pe, b) := by
    rw [State.slot_push hfree, if_pos (State.runIndex_count hr)]
  simp only [State.contents, State.count_push hr hfree, List.range_succ, List.map_append, hidx, List.map_cons,
    List.map_nil, hnew, List.map_congr_left hold]

theorem State.pushAll_cons (s : State) (x : Bool × Byte) (xs : List (Bool × Byte)) :
    s.pushAll (x :: xs) = (s.push x.1 x.2).pushAll xs := rfl

/-- PUSHes leave HEAD, the parameters and SEQ alone. -/
theorem State.pushAll_frame (s : State) (bytes : List (Bool × Byte)) :
    (s.pushAll bytes).head = s.head ∧ (s.pushAll bytes).params = s.params ∧ (s.pushAll bytes).seq = s.seq := by
  induction bytes generalizing s with
  | nil => exact ⟨rfl, rfl, rfl⟩
  | cons x xs ih =>
    rw [State.pushAll_cons]
    simpa only [State.push_head, State.push_params, State.push_seq] using ih (s.push x.1 x.2)

theorem State.pushAll_indicesInRange {s : State} (hr : s.IndicesInRange) (bytes : List (Bool × Byte)) :
    (s.pushAll bytes).IndicesInRange := by
  induction bytes generalizing s with
  | nil => exact hr
  | cons x xs ih => exact ih (State.push_indicesInRange hr x.1 x.2)

/-- As many PUSHes as there are free slots append all their bytes, in order. -/
theorem State.contents_pushAll {s : State} {bytes : List (Bool × Byte)} (hr : s.IndicesInRange)
    (hfit : s.count + bytes.length ≤ s.params.capacity) : (s.pushAll bytes).contents = s.contents ++ bytes := by
  induction bytes generalizing s with
  | nil => exact (List.append_nil _).symm
  | cons x xs ih =>
    rw [List.length_cons] at hfit
    have hfree : s.nextIndex s.tail ≠ s.head := (State.nextIndex_tail_ne_head_iff hr).2 (by omega)
    have hfit' : (s.push x.1 x.2).count + xs.length ≤ (s.push x.1 x.2).params.capacity := by
      rw [State.count_push hr hfree, State.push_params]
      omega
    rw [State.pushAll_cons, ih (State.push_indicesInRange hr x.1 x.2) hfit', State.contents_push hr hfree,
      List.append_assoc, List.singleton_append]

/-! ### READ -/

theorem exec_hostRead (arg : Byte) (s : State) : exec (.hostRead arg) s = execHostRead arg s := rfl

/-- READ of a buffer that is not empty (R153). -/
theorem exec_hostRead_of_stored {s : State} (arg : Byte) (hq : s.seq = .ready) (hr : s.IndicesInRange)
    (hne : s.head ≠ s.tail) : exec (.hostRead arg) s = .next (s.quiet.advanceHead.respond .ok s.oldest) := by
  rw [exec_hostRead, execHostRead, State.accept_of_ready _ hq]
  exact (State.withIndices_of_inRange (s := s.quiet) _ hr).trans (if_neg hne)

theorem State.advanceHead_indicesInRange {s : State} (hr : s.IndicesInRange) : s.advanceHead.IndicesInRange :=
  ⟨State.nextIndex_lt _ (Nat.zero_lt_of_lt hr.1), hr.2⟩

theorem State.count_advanceHead {s : State} (hr : s.IndicesInRange) (hne : s.head ≠ s.tail) :
    s.count = s.advanceHead.count + 1 := by
  have hr' := State.advanceHead_indicesInRange hr
  obtain ⟨hh, ht⟩ := hr
  rw [State.count_eq hh ht, State.count_eq hr'.1 hr'.2]
  simp only [State.advanceHead_head, State.advanceHead_tail, State.advanceHead_params, State.nextIndex_eq hh]
  split_ifs <;> omega

theorem State.runIndex_advanceHead (s : State) (j : Nat) : s.advanceHead.runIndex j = s.runIndex (j + 1) := by
  simp only [State.runIndex, State.advanceHead_head, State.advanceHead_params, State.nextIndex, Nat.mod_add_mod,
    Nat.add_assoc, Nat.add_comm 1 j]

/-- The oldest stored byte is the first of the list, and HEAD moving on drops it (R142). -/
theorem State.contents_of_stored {s : State} (hr : s.IndicesInRange) (hne : s.head ≠ s.tail) :
    s.contents = s.slot s.head :: s.advanceHead.contents := by
  have hslot (i : Nat) : s.advanceHead.slot i = s.slot i := rfl
  simp only [State.contents, State.count_advanceHead hr hne, List.range_succ_eq_map, List.map_cons, List.map_map,
    Function.comp_def, State.runIndex_zero hr, State.runIndex_advanceHead, hslot]

/-- The response of a READ that returns this flag and byte (R153). -/
def readResponse (x : Bool × Byte) : Option Response := some { status := .ok, value := BitVec.ofBool x.1 ++ x.2 }

theorem readAll_succ {s t : State} (n : Nat) (h : exec (.hostRead 0) s = .next t) :
    readAll (n + 1) s = (t.rsp :: (readAll n t).1, (readAll n t).2) := by
  simp only [readAll, h]

/-- As many READs as there are stored bytes return them in order and leave the buffer empty, with HEAD as far on. -/
theorem readAll_contents {s : State} {bytes : List (Bool × Byte)} (hq : s.seq = .ready) (hr : s.IndicesInRange)
    (hc : s.contents = bytes) :
    ∃ t, readAll bytes.length s = (bytes.map readResponse, t) ∧ t.head = t.tail ∧
      t.head = s.runIndex bytes.length := by
  induction bytes generalizing s with
  | nil => exact ⟨s, rfl, (State.contents_eq_nil_iff hr).1 hc, (State.runIndex_zero hr).symm⟩
  | cons x xs ih =>
    have hne : s.head ≠ s.tail := fun h => List.cons_ne_nil x xs (hc.symm.trans ((State.contents_eq_nil_iff hr).2 h))
    rw [State.contents_of_stored hr hne, List.cons.injEq] at hc
    obtain ⟨rfl, hrest⟩ := hc
    obtain ⟨t, hread, hempty, hhead⟩ :=
      ih (s := s.quiet.advanceHead.respond .ok s.oldest) hq (State.advanceHead_indicesInRange hr) hrest
    refine ⟨t, ?_, hempty, hhead.trans (s.runIndex_advanceHead xs.length)⟩
    rw [List.length_cons, readAll_succ _ (exec_hostRead_of_stored 0 hq hr hne), hread]
    rfl

/-- Settles O28: the PUSHes make the bytes the contents of the buffer (`State.contents_pushAll`), and the READs return
those contents (`readAll_contents`). -/
theorem bufferIsFirstInFirstOut : Obligations.BufferIsFirstInFirstOut := by
  refine ⟨fun s hr => State.count_le_capacity hr, fun s bytes hr hempty hq hlen => ?_⟩
  have hfit : s.count + bytes.length ≤ s.params.capacity := by
    rwa [(State.count_eq_zero_iff hr).2 hempty, Nat.zero_add]
  have hc : (s.pushAll bytes).contents = bytes := by
    rw [State.contents_pushAll hr hfit, (State.contents_eq_nil_iff hr).2 hempty, List.nil_append]
  obtain ⟨hsameHead, hsameParams, hsameSeq⟩ := s.pushAll_frame bytes
  obtain ⟨t, hread, hdone, hhead⟩ :=
    readAll_contents (hsameSeq.trans hq) (State.pushAll_indicesInRange hr bytes) hc
  refine ⟨by rw [← State.length_contents, hc], t, hread, hdone, hhead.trans ?_⟩
  rw [State.runIndex, hsameHead, hsameParams]

end Sys2Proof.Machine
end

section
/-! PROOFS. The host interface: the commands at their acceptance step (R151 to R160), the steps that finish a blocking
command (R161 to R163) and TICK (R165). -/

namespace Sys2Proof.Machine

/-! ### The meaning of each row -/

theorem exec_hostBegin (arg : Byte) (s : State) : exec (.hostBegin arg) s = execHostBegin arg s := rfl

theorem exec_hostAvailable (arg : Byte) (s : State) : exec (.hostAvailable arg) s = execHostAvailable arg s := rfl

theorem exec_hostWrite (arg : Byte) (s : State) : exec (.hostWrite arg) s = execHostWrite arg s := rfl

theorem exec_hostFlush (ignored : BitVec 6) (tx rx : Bool) (s : State) :
    exec (.hostFlush ignored tx rx) s = execHostFlush ignored tx rx s := rfl

theorem exec_hostReset (arg : Byte) (s : State) : exec (.hostReset arg) s = execHostReset arg s := rfl

theorem exec_hostSuspend (arg : Byte) (s : State) : exec (.hostSuspend arg) s = execHostSuspend arg s := rfl

theorem exec_hostResume (arg : Byte) (s : State) : exec (.hostResume arg) s = execHostResume arg s := rfl

theorem exec_hostRts (arg : Byte) (s : State) : exec (.hostRts arg) s = execHostRts arg s := rfl

/-- The seven reserved rows share one meaning (R160). -/
theorem exec_reservedRow (k : Fin 7) (arg : Byte) (s : State) : exec (reservedRow k arg) s = reservedCommand s := by
  fin_cases k <;> rfl

theorem exec_holdDoneRts (s : State) : exec .holdDoneRts s = execHoldDoneRts s := rfl

theorem exec_holdDoneWrite (s : State) : exec .holdDoneWrite s = execHoldDoneWrite s := rfl

theorem exec_resetDone (s : State) : exec .resetDone s = execResetDone s := rfl

theorem exec_writeTimeout (s : State) : exec .writeTimeout s = execWriteTimeout s := rfl

theorem exec_tick (q : BitVec 3) (s : State) : exec (.tick q) s = execTick q s := rfl

/-! ### Commands that are answered in every phase -/

theorem exec_hostBegin_of_ready {s : State} (arg : Byte) (hq : s.seq = .ready) :
    exec (.hostBegin arg) s =
      .next ({ (s.quiet.clearFrames.clearRing.driveLines false) with ien := true }.respond .ok 0) :=
  (exec_hostBegin arg s).trans (State.accept_of_ready _ hq)

theorem exec_hostReset_of_ready {s : State} (arg : Byte) (hq : s.seq = .ready) :
    exec (.hostReset arg) s =
      .next { (s.quiet.clearFrames.clearRing.driveLines true) with
        holdCnt := s.params.resetHoldTicks, seq := .resetHold } :=
  (exec_hostReset arg s).trans (State.accept_of_ready _ hq)

/-- Settles O29: the second BEGIN is accepted too, since BEGIN leaves SEQ alone, and it writes the same constants. -/
theorem beginInitialisesTheBlock : Obligations.BeginInitialisesTheBlock := by
  intro arg s hq
  exact ⟨_, exec_hostBegin_of_ready arg hq, rfl, exec_hostBegin_of_ready arg hq⟩

/-- Settles O35: RESET is accepted, and its writes are the statement's. -/
theorem resetPullsBothLinesLow : Obligations.ResetPullsBothLinesLow :=
  fun arg _ hq => exec_hostReset_of_ready arg hq

/-- Every count fits the 9 bits of a response's value, since BUF_SLOTS is at most 512 (R5, R88). -/
theorem State.toNat_ofNat_count {s : State} (hp : s.params.Ok) (hr : s.IndicesInRange) :
    (BitVec.ofNat 9 s.count).toNat = s.count := by
  obtain ⟨_, hslots, _⟩ := hp
  have hcap : s.count ≤ s.params.bufSlots - 1 := State.count_le_capacity hr
  rw [BitVec.toNat_ofNat, Nat.mod_eq_of_lt (by omega)]

theorem exec_hostAvailable_of_ready {s : State} (arg : Byte) (hq : s.seq = .ready) (hr : s.IndicesInRange) :
    exec (.hostAvailable arg) s = .next (s.quiet.respond .ok (BitVec.ofNat 9 s.count)) :=
  (exec_hostAvailable arg s).trans
    ((State.accept_of_ready _ hq).trans (State.withIndices_of_inRange (s := s.quiet) _ hr))

/-- Settles O30: the value of the response is COUNT, which its 9 bits hold. -/
theorem availableReportsTheCount : Obligations.AvailableReportsTheCount := by
  intro arg s hq hp hr
  have hv := State.toNat_ofNat_count hp hr
  refine ⟨_, hv.trans (State.count_eq hr.1 hr.2), hv.trans_le (State.count_le_capacity hr), ?_,
    exec_hostAvailable_of_ready arg hq hr⟩
  rw [hv]
  exact State.count_eq_zero_iff hr

/-- READ of an empty buffer (R153). -/
theorem exec_hostRead_of_empty {s : State} (arg : Byte) (hq : s.seq = .ready) (hr : s.IndicesInRange)
    (he : s.head = s.tail) : exec (.hostRead arg) s = .next (s.quiet.raise .bufferEmpty) := by
  rw [exec_hostRead, execHostRead, State.accept_of_ready _ hq]
  exact (State.withIndices_of_inRange (s := s.quiet) _ hr).trans (if_pos he)

/-- Settles O31: a buffer with bytes stored, and an empty one. -/
theorem readTakesTheOldestByte : Obligations.ReadTakesTheOldestByte := by
  intro arg s hq hr
  exact ⟨exec_hostRead_of_stored arg hq hr, fun he => ⟨_, exec_hostRead_of_empty arg hq hr he⟩⟩

/-- FLUSH's test of the transmit side, as R155 words it. -/
theorem State.flushesTx_eq (s : State) (tx : Bool) :
    (tx && !decide (s.phase = .rts) && !decide (s.phase = .sending)) =
      decide (tx = true ∧ s.phase ≠ .rts ∧ s.phase ≠ .sending) := by
  simp [Bool.and_assoc]

/-- Settles O34: the transmit side cleared or not (`State.flushesTx_eq`), and for each the receive side. -/
theorem flushClearsTheSelectedSides : Obligations.FlushClearsTheSelectedSides := by
  intro ignored tx rx s hq clearsTx
  refine (exec_hostFlush ignored tx rx s).trans ((State.accept_of_ready _ hq).trans ?_)
  have hrx : (if rx then s.quiet.clearRing else s.quiet).phase = s.phase := by cases rx <;> rfl
  simp only [State.flushesTx_eq, hrx, decide_eq_true_eq]
  by_cases hc : tx = true ∧ s.phase ≠ .rts ∧ s.phase ≠ .sending
  · simp only [clearsTx, if_pos hc]
    cases rx <;> rfl
  · simp only [clearsTx, if_neg hc]
    cases rx <;> rfl

theorem exec_reservedRow_of_ready {s : State} (k : Fin 7) (arg : Byte) (hq : s.seq = .ready) :
    exec (reservedRow k arg) s = .next (s.quiet.raise .illegalCommand) :=
  (exec_reservedRow k arg s).trans (State.accept_of_ready _ hq)

/-- Settles O38: all seven rows are `reservedCommand`. -/
theorem reservedCommandsChangeNothing : Obligations.ReservedCommandsChangeNothing :=
  fun k arg _ hq => ⟨_, exec_reservedRow_of_ready k arg hq⟩

/-! ### Commands that look at PHASE -/

theorem exec_hostWrite_of_idle {s : State} (arg : Byte) (hq : s.seq = .ready) (hp : s.phase = .idle) :
    exec (.hostWrite arg) s =
      .next { (s.quiet.requestToSend .writeHold) with txByte := arg, wdCnt := s.params.watchdogTicks } :=
  (exec_hostWrite arg s).trans ((State.accept_of_ready _ hq).trans (if_pos hp))

theorem exec_hostWrite_of_busy {s : State} (arg : Byte) (hq : s.seq = .ready) (hp : s.phase ≠ .idle) :
    exec (.hostWrite arg) s = .next (s.quiet.raise .busBusy) :=
  (exec_hostWrite arg s).trans ((State.accept_of_ready _ hq).trans (if_neg hp))

theorem exec_hostRts_of_idle {s : State} (arg : Byte) (hq : s.seq = .ready) (hp : s.phase = .idle) :
    exec (.hostRts arg) s = .next (s.quiet.requestToSend .rtsHold) :=
  (exec_hostRts arg s).trans ((State.accept_of_ready _ hq).trans (if_pos hp))

theorem exec_hostRts_of_busy {s : State} (arg : Byte) (hq : s.seq = .ready) (hp : s.phase ≠ .idle) :
    exec (.hostRts arg) s = .next (s.quiet.raise .busBusy) :=
  (exec_hostRts arg s).trans ((State.accept_of_ready _ hq).trans (if_neg hp))

/-- Settles O32: PHASE = IDLE, or the bus is busy. -/
theorem writeStartsARequest : Obligations.WriteStartsARequest :=
  fun arg _ hq => ⟨exec_hostWrite_of_idle arg hq, fun hp => ⟨_, exec_hostWrite_of_busy arg hq hp⟩⟩

/-- Settles O33: PHASE = IDLE, or the bus is busy. -/
theorem rtsStartsARequest : Obligations.RtsStartsARequest :=
  fun arg _ hq => ⟨exec_hostRts_of_idle arg hq, fun hp => ⟨_, exec_hostRts_of_busy arg hq hp⟩⟩

theorem exec_hostSuspend_of_idle {s : State} (arg : Byte) (hq : s.seq = .ready) (hp : s.phase = .idle) :
    exec (.hostSuspend arg) s = .next ({ s.quiet with hclk := true, phase := .suspended }.respond .ok 0) := by
  refine (exec_hostSuspend arg s).trans ((State.accept_of_ready _ hq).trans ?_)
  simp only [State.quiet_phase, hp]

theorem exec_hostSuspend_of_suspended {s : State} (arg : Byte) (hq : s.seq = .ready) (hp : s.phase = .suspended) :
    exec (.hostSuspend arg) s = .next (s.quiet.respond .ok 0) := by
  refine (exec_hostSuspend arg s).trans ((State.accept_of_ready _ hq).trans ?_)
  simp only [State.quiet_phase, hp]

/-- SUSPEND with a frame in progress or a request pending (R157). -/
theorem exec_hostSuspend_of_busy {s : State} (arg : Byte) (hq : s.seq = .ready)
    (hp : s.phase = .receiving ∨ s.phase = .rts ∨ s.phase = .sending) :
    exec (.hostSuspend arg) s = .next (s.quiet.raise .busBusy) := by
  refine (exec_hostSuspend arg s).trans ((State.accept_of_ready _ hq).trans ?_)
  rcases hp with hp | hp | hp <;> simp only [State.quiet_phase, hp]

/-- Settles O36: the three kinds of PHASE. -/
theorem suspendPullsClockLow : Obligations.SuspendPullsClockLow :=
  fun arg _ hq => ⟨exec_hostSuspend_of_idle arg hq, exec_hostSuspend_of_suspended arg hq,
    fun hp => ⟨_, exec_hostSuspend_of_busy arg hq hp⟩⟩

theorem exec_hostResume_of_ready {s : State} (arg : Byte) (hq : s.seq = .ready) :
    exec (.hostResume arg) s = .next
      ((if s.phase = .suspended then { s.quiet with hclk := false, phase := .idle } else s.quiet).respond .ok 0) :=
  (exec_hostResume arg s).trans (State.accept_of_ready _ hq)

/-- Settles O37: PHASE = SUSPENDED, or any other. -/
theorem resumeReleasesClock : Obligations.ResumeReleasesClock := by
  intro arg s hq
  rw [exec_hostResume_of_ready arg hq]
  exact ⟨fun hp => by rw [if_pos hp]; rfl, fun hp => by rw [if_neg hp]; rfl⟩

/-! ### The steps that finish a blocking command -/

theorem State.holdOver_of_zero {s : State} {q : Sequencer} (hq : s.seq = q) (h0 : s.holdCnt = 0) :
    s.holdOver q = true := by
  simp [State.holdOver, hq, h0]

theorem exec_holdDoneRts_of_over {s : State} (hq : s.seq = .rtsHold) (h0 : s.holdCnt = 0) :
    exec .holdDoneRts s = .next ((s.quiet.startBit .ready).respond .ok 0) :=
  (exec_holdDoneRts s).trans (State.whenEnabled_of_enabled s _ (State.holdOver_of_zero hq h0))

theorem exec_holdDoneWrite_of_over {s : State} (hq : s.seq = .writeHold) (h0 : s.holdCnt = 0) :
    exec .holdDoneWrite s = .next (s.quiet.startBit .writeWait) :=
  (exec_holdDoneWrite s).trans (State.whenEnabled_of_enabled s _ (State.holdOver_of_zero hq h0))

theorem exec_resetDone_of_over {s : State} (hq : s.seq = .resetHold) (h0 : s.holdCnt = 0) :
    exec .resetDone s = .next ({ (s.quiet.driveLines false) with seq := .ready }.respond .ok 0) :=
  (exec_resetDone s).trans (State.whenEnabled_of_enabled s _ (State.holdOver_of_zero hq h0))

/-- Settles O40: the three holds. -/
theorem holdEndsByReleasingClock : Obligations.HoldEndsByReleasingClock := by
  intro s h0
  exact ⟨fun hq => exec_holdDoneRts_of_over hq h0, fun hq => exec_holdDoneWrite_of_over hq h0,
    fun hq => exec_resetDone_of_over hq h0⟩

/-- WRITE_TIMEOUT is taken only with TXDONE = 0 (R164). -/
theorem txDone_of_exec_writeTimeout {s t : State} (h : exec .writeTimeout s = .next t) : s.txDone = false := by
  have hen : s.timeoutEnabled = true := (State.whenEnabled_next ((exec_writeTimeout s).symm.trans h)).1
  simp only [State.timeoutEnabled, Bool.and_eq_true, Bool.not_eq_true'] at hen
  obtain ⟨⟨-, hd⟩, -⟩ := hen
  exact hd

/-- Settles O41: WRITE_DONE by `exec_writeDone_next`, and WRITE_TIMEOUT asks for TXDONE = 0. -/
theorem writeDoneReportsTheOutcome : Obligations.WriteDoneReportsTheOutcome :=
  ⟨fun _ hq hd => ⟨_, exec_writeDone_next hq hd⟩,
    fun _ _ hd h => Bool.false_ne_true ((txDone_of_exec_writeTimeout h).symm.trans hd)⟩

/-! ### Time -/

theorem Sequencer.holds_iff (q : Sequencer) : q.holds = true ↔ q = .rtsHold ∨ q = .writeHold ∨ q = .resetHold := by
  cases q <;> simp [Sequencer.holds]

theorem Sequencer.watches_iff (q : Sequencer) : q.watches = true ↔ q = .writeHold ∨ q = .writeWait := by
  cases q <;> simp [Sequencer.watches]

/-- The counters after one unit of time, with the states of SEQ named (R165). -/
theorem State.countDown_eq (s : State) :
    s.countDown = { s with
      holdCnt := if s.seq = .rtsHold ∨ s.seq = .writeHold ∨ s.seq = .resetHold then s.holdCnt - 1 else s.holdCnt,
      wdCnt := if (s.seq = .writeHold ∨ s.seq = .writeWait) ∧ 0 < s.wdCnt then s.wdCnt - 1 else s.wdCnt } := by
  simp only [State.countDown, Sequencer.holds_iff, Sequencer.watches_iff]

/-- TICK in a state with no urgent step enabled (R165). -/
theorem exec_tick_of_not_urgent {s : State} (hu : s.urgentEnabled = false) :
    exec (.tick s.seq.code) s = .next s.quiet.countDown :=
  (exec_tick s.seq.code s).trans (State.whenEnabled_of_enabled s _ (by simp [hu]))

/-- Settles O43: the two premises say that no urgent step is enabled (`State.urgentEnabled_iff`). -/
theorem tickCountsDown : Obligations.TickCountsDown := by
  intro s hhold hwait
  have hu : s.urgentEnabled = false := by
    rw [Bool.eq_false_iff, ne_eq, State.urgentEnabled_iff]
    exact not_or.2 ⟨hhold, hwait⟩
  rw [exec_tick_of_not_urgent hu, State.countDown_eq]
  rfl

end Sys2Proof.Machine
end

section
/-! PROOFS. The three exceptional ends of a frame: RX_STOP with an invalid stop bit (R193), RX_STOP with the buffer full
(R195), and the send that WRITE_TIMEOUT abandons (R197). -/

namespace Sys2Proof.Machine

/-! ### A received frame that is not stored -/

/-- RX_STOP on an invalid stop bit: the frame is over and nothing goes to PUSH (R107, R193). -/
theorem exec_rxStop_of_invalid {s : State} {v : Bool} (hi : s.ien = true) (hc : s.hclk = false)
    (hp : s.phase = .receiving) (hn : s.rxPos = 10) (hd : s.sampled v = false) :
    exec (.rxStop v) s = .next { s with
      rxShift := setBit s.rxShift 10 false, rxPos := 0, phase := .idle, rsp := none, ev := some .frameError } := by
  have hq : s.quiet.sampled v = false := hd
  rw [exec_rxStop, execRxStop, State.onEdge_of_selected _ hi hc (selected_of_receiving hp hn), hq]
  rfl

/-- PUSH with the buffer full (R141). -/
theorem State.push_of_full {s : State} (pe : Bool) (b : Byte) (h : s.nextIndex s.tail = s.head) :
    s.push pe b = s.emit .bufferOverflow :=
  ((s.push_cases pe b).resolve_right fun hfree => hfree.1 h).2

/-- Settles O19: the shift register after the edge is `setBit` at position 10, with the sampled 0. -/
theorem rxStopDiscardsOnFrameError : Obligations.RxStopDiscardsOnFrameError := by
  intro v s hi hc hp hn hd
  rw [← State.sampled_eq] at hd
  exact ⟨setBit s.rxShift 10 false, fun _ hj => getLsbD_setBit _ (by omega) hj _,
    exec_rxStop_of_invalid hi hc hp hn hd⟩

/-- Settles O21: the valid stop bit leads to PUSH, which finds the buffer full and drops the byte. -/
theorem rxStopDropsOnOverflow : Obligations.RxStopDropsOnOverflow := by
  intro v s hi hc hp hn hd hr hfull
  rw [← State.sampled_eq] at hd
  exact ⟨setBit s.rxShift 10 true, fun _ hj => getLsbD_setBit _ (by omega) hj _,
    (exec_rxStop_of_valid hi hc hp hn hd hr).trans (congrArg Host.Outcome.next (State.push_of_full _ _ hfull))⟩

/-! ### A send that is abandoned -/

theorem State.timeoutEnabled_iff (s : State) :
    s.timeoutEnabled = true ↔ s.seq = .writeWait ∧ s.txDone = false ∧ s.wdCnt = 0 := by
  simp [State.timeoutEnabled, and_assoc]

/-- WRITE_TIMEOUT when the watchdog of the waiting WRITE has run out (R164). -/
theorem exec_writeTimeout_of_enabled {s : State} (h : s.timeoutEnabled = true) :
    exec .writeTimeout s = .next
      ({ (s.quiet.driveLines false) with phase := .idle, txPos := 0, txPar := false, seq := .ready }.raise
        .timeout) :=
  (exec_writeTimeout s).trans (State.whenEnabled_of_enabled s _ h)

/-- Settles O42: the premises enable the step (`State.timeoutEnabled_iff`), and its writes are the statement's. -/
theorem writeTimeoutAbandonsTheSend : Obligations.WriteTimeoutAbandonsTheSend :=
  fun s hq hd h0 => ⟨_, exec_writeTimeout_of_enabled (s.timeoutEnabled_iff.2 ⟨hq, hd, h0⟩)⟩

end Sys2Proof.Machine
end

section
/-! PROOFS. The assertion of `rst_n` as a step, from any state whatever its indices (R220). -/

namespace Sys2Proof.Machine

/-- The power-on turn selects no operation and leaves the power-on state (R220). -/
theorem State.fetch_powerOn {s : State} {rest : List Turn} (h : s.agenda = .powerOn :: rest) :
    s.fetch = .still { s with agenda := rest }.powerOn := by simp only [State.fetch, h]

/-- Power-on is the one step a state with an index outside the buffer can take (R48), so no range is assumed. -/
theorem step_of_powerOn {s : State} {rest : List Turn} (h : s.agenda = .powerOn :: rest) :
    step s = .next { s with agenda := rest }.powerOn :=
  step_of_still (State.not_faulted_of_powerOn h) (State.fetch_powerOn h)

/-- Settles O14: the step is `step_of_powerOn`, and the field lemmas of `State.powerOn` give each register. -/
theorem powerOnResetsEveryRegister : Obligations.PowerOnResetsEveryRegister :=
  fun _ _ h => ⟨_, step_of_powerOn h, by simp⟩

end Sys2Proof.Machine
end

section
/-! PROOFS. The encodings: decode and encode are inverse (R85 to R90, R92), the frame image (R84), and the words of the
output ports (R88, R89, R95). -/

namespace Sys2Proof

/-! ### The fields of a word -/

@[simp] theorem CmdWord.op_append (op : BitVec 4) (arg : Byte) : CmdWord.op (op ++ arg) = op :=
  BitVec.extractLsb'_append_eq_left

@[simp] theorem CmdWord.arg_append (op : BitVec 4) (arg : Byte) : CmdWord.arg (op ++ arg) = arg :=
  BitVec.extractLsb'_append_eq_right

/-- Every command word is its two fields (R85). -/
theorem CmdWord.op_append_arg (w : CmdWord) : CmdWord.op w ++ CmdWord.arg w = w :=
  BitVec.extractLsb'_append_extractLsb' (w := 4) (len := 8)

theorem decode_cmdWord (op : BitVec 4) (arg : Byte) : decode (cmdWord op arg) = decodeCommand (op ++ arg) := rfl

/-- The argument of FLUSH comes apart into the fields it was put together from (R87). -/
theorem flushOf_append (ignored : BitVec 6) (tx rx : Bool) :
    flushOf (ignored ++ BitVec.ofBool tx ++ BitVec.ofBool rx) = .hostFlush ignored tx rx := by
  have hbit (k : Nat) : (ignored ++ BitVec.ofBool tx ++ BitVec.ofBool rx).getLsbD k =
      if k < 1 then (BitVec.ofBool rx).getLsbD k
      else if k - 1 < 1 then (BitVec.ofBool tx).getLsbD (k - 1) else ignored.getLsbD (k - 1 - 1) := by
    simp only [BitVec.getLsbD_append]
  have hignored : BitVec.extractLsb' 2 6 (ignored ++ BitVec.ofBool tx ++ BitVec.ofBool rx) = ignored := by
    rw [BitVec.append_assoc]
    exact BitVec.extractLsb'_append_eq_left
  have htx : (ignored ++ BitVec.ofBool tx ++ BitVec.ofBool rx).getLsbD 1 = tx := (hbit 1).trans (by cases tx <;> rfl)
  have hrx : (ignored ++ BitVec.ofBool tx ++ BitVec.ofBool rx).getLsbD 0 = rx := (hbit 0).trans (by cases rx <;> rfl)
  exact congr (congrArg₂ Instr.hostFlush hignored htx) hrx

/-- The argument of FLUSH is its three fields (R87). -/
theorem encode_flushOf (arg : Byte) : encode (flushOf arg) = cmdWord 0x4#4 arg := by
  refine congrArg (cmdWord 0x4#4) (BitVec.eq_of_getLsbD_eq fun k hk => ?_)
  simp only [BitVec.getLsbD_append]
  obtain rfl | rfl | hk2 : k = 0 ∨ k = 1 ∨ 2 ≤ k := by omega
  · simp
  · simp
  · rw [if_neg (by omega), if_neg (by omega), BitVec.getLsbD_extractLsb', Nat.sub_sub, Nat.add_sub_cancel' hk2]
    simp [show k - 2 < 6 by omega]

/-! ### Decoding what was encoded -/

/-- With no condition met, a legal code of SEQ selects TICK (R165). -/
theorem decodeSeq_of_no_condition {q : BitVec 3} (hq : legalSeqCode q = true) :
    decodeSeq q false false false = .ok (.tick q) := by
  have hle : q.toNat ≤ 4 := by simpa [legalSeqCode] using hq
  obtain ⟨⟨n, hn⟩⟩ := q
  have hn4 : n ≤ 4 := hle
  interval_cases n <;> rfl

/-- Settles O1: a command word gives its two fields back, and the other selectors are looked up in the tables. -/
theorem decodeOfEncodeIsIdentity : Obligations.DecodeOfEncodeIsIdentity := by
  intro i hwf
  cases i with
  | hostBegin a | hostAvailable a | hostRead a | hostWrite a | hostReset a | hostSuspend a | hostResume a | hostRts a
  | reserved9 a | reservedA a | reservedB a | reservedC a | reservedD a | reservedE a | reservedF a =>
    simp [encode, decode_cmdWord, decodeCommand]
  | hostFlush ignored tx rx => simp [encode, decode_cmdWord, decodeCommand, flushOf_append]
  | tick q => exact decodeSeq_of_no_condition hwf
  | _ => rfl

/-! ### Encoding what was decoded -/

/-- What an edge key decodes to is an edge micro-operation of that key, or the key is 0x30 (R90, R121). -/
theorem encode_of_decodeEdge {key : EdgeKey} {v : Bool} {i : Instr} (h : decodeEdge key v = .ok i) :
    encode i = .edge key v ∨ (key = 0x30#7 ∧ i = .txData0 v) := by
  unfold decodeEdge at h
  split at h <;> cases h
  case h_13 hk => exact .inr ⟨BitVec.eq_of_toNat_eq hk, rfl⟩
  all_goals
    rename_i hk
    exact .inl (congrArg (OpWord.edge · v) (BitVec.eq_of_toNat_eq hk.symm))

/-- What a selector of the sequencer decodes to has its code of SEQ, and the conditions it needs are met (R161 to
R165). -/
theorem encode_of_decodeSeq {q : BitVec 3} {holdZero txDone wdZero : Bool} {i : Instr}
    (h : decodeSeq q holdZero txDone wdZero = .ok i) :
    ∃ a b c : Bool, encode i = .seq3 q a b c ∧ (a = true → holdZero = true) ∧ (b = true → txDone = true) ∧
      (c = true → wdZero = true) := by
  have htick : ∃ a b c : Bool, encode (.tick q) = .seq3 q a b c ∧ (a = true → holdZero = true) ∧
      (b = true → txDone = true) ∧ (c = true → wdZero = true) :=
    ⟨false, false, false, rfl, nofun, nofun, nofun⟩
  have hcode {r : BitVec 3} (hq : q.toNat = r.toNat) : r = q := BitVec.eq_of_toNat_eq hq.symm
  have hhold {j : Instr} (hj : encode j = .seq3 q true false false) :
      ∃ a b c : Bool, encode (if holdZero then j else .tick q) = .seq3 q a b c ∧ (a = true → holdZero = true) ∧
        (b = true → txDone = true) ∧ (c = true → wdZero = true) := by
    split_ifs with hz
    · exact ⟨true, false, false, hj, fun _ => hz, nofun, nofun⟩
    · exact htick
  unfold decodeSeq at h
  split at h <;> cases h
  case h_1 => exact htick
  case h_2 hq => exact hhold (congrArg (OpWord.seq3 · _ _ _) (hcode hq))
  case h_3 hq => exact hhold (congrArg (OpWord.seq3 · _ _ _) (hcode hq))
  case h_4 hq =>
    split_ifs with hd hw
    · exact ⟨false, true, false, congrArg (OpWord.seq3 · _ _ _) (hcode hq), nofun, fun _ => hd, nofun⟩
    · exact ⟨false, false, true, congrArg (OpWord.seq3 · _ _ _) (hcode hq), nofun, nofun, fun _ => hw⟩
    · exact htick
  case h_5 hq => exact hhold (congrArg (OpWord.seq3 · _ _ _) (hcode hq))

/-- Every command word is the encoding of a well-formed operation (R86). -/
theorem exists_encode_eq_cmdWord (op : BitVec 4) (arg : Byte) :
    ∃ i : Instr, i.wellFormed = true ∧ encode i = cmdWord op arg := by
  obtain ⟨⟨n, hn⟩⟩ := op
  interval_cases n
  · exact ⟨.hostBegin arg, rfl, rfl⟩
  · exact ⟨.hostAvailable arg, rfl, rfl⟩
  · exact ⟨.hostRead arg, rfl, rfl⟩
  · exact ⟨.hostWrite arg, rfl, rfl⟩
  · exact ⟨flushOf arg, rfl, encode_flushOf arg⟩
  · exact ⟨.hostReset arg, rfl, rfl⟩
  · exact ⟨.hostSuspend arg, rfl, rfl⟩
  · exact ⟨.hostResume arg, rfl, rfl⟩
  · exact ⟨.hostRts arg, rfl, rfl⟩
  · exact ⟨.reserved9 arg, rfl, rfl⟩
  · exact ⟨.reservedA arg, rfl, rfl⟩
  · exact ⟨.reservedB arg, rfl, rfl⟩
  · exact ⟨.reservedC arg, rfl, rfl⟩
  · exact ⟨.reservedD arg, rfl, rfl⟩
  · exact ⟨.reservedE arg, rfl, rfl⟩
  · exact ⟨.reservedF arg, rfl, rfl⟩

/-- Every command word decodes, to a well-formed operation that is encoded as that word (R86). -/
theorem exists_decode_cmd12 (w : CmdWord) :
    ∃ i : Instr, decode (.cmd12 w) = .ok i ∧ i.wellFormed = true ∧ encode i = .cmd12 w := by
  obtain ⟨i, hwf, hi⟩ := exists_encode_eq_cmdWord (CmdWord.op w) (CmdWord.arg w)
  rw [cmdWord, CmdWord.op_append_arg] at hi
  exact ⟨i, hi ▸ decodeOfEncodeIsIdentity i hwf, hwf, hi⟩

/-- A code of SEQ that selects an operation is legal (R92). -/
theorem legalSeqCode_of_decodeSeq {q : BitVec 3} {holdZero txDone wdZero : Bool} {i : Instr}
    (h : decodeSeq q holdZero txDone wdZero = .ok i) : legalSeqCode q = true := by
  unfold decodeSeq at h
  split at h
  case h_6 => cases h
  all_goals simp [legalSeqCode, *]

/-- An operation is well-formed unless it is TICK at a reserved code of SEQ. -/
theorem Instr.wellFormed_of_tick_legal {i : Instr} (h : ∀ q, i = .tick q → legalSeqCode q = true) :
    i.wellFormed = true := by
  cases i with
  | tick q => exact h q rfl
  | _ => rfl

/-- What the decoder reads is well-formed (R86, R90, R92). -/
theorem wellFormed_of_decode {w : OpWord} {i : Instr} (h : decode w = .ok i) : i.wellFormed = true := by
  refine Instr.wellFormed_of_tick_legal fun r hr => ?_
  subst hr
  cases w with
  | cmd12 w =>
    obtain ⟨j, hj, -, he⟩ := exists_decode_cmd12 w
    cases hj.symm.trans h
    cases he
  | edge key v =>
    obtain he | ⟨-, he⟩ := encode_of_decodeEdge h <;> cases he
  | seq3 q holdZero txDone wdZero =>
    obtain ⟨_, _, _, he, -⟩ := encode_of_decodeSeq h
    cases he
    exact legalSeqCode_of_decodeSeq h

/-- Settles O2, format by format. -/
theorem encodeOfDecodeGivesTheWordBack : Obligations.EncodeOfDecodeGivesTheWordBack := by
  refine ⟨fun _ _ => wellFormed_of_decode, fun w => ?_, fun key v i h hne => ?_, fun _ => rfl,
    fun _ _ _ _ _ => encode_of_decodeSeq⟩
  · obtain ⟨i, hd, -, he⟩ := exists_decode_cmd12 w
    exact ⟨i, hd, he⟩
  · exact (encode_of_decodeEdge h).resolve_right fun h30 => hne h30.1

/-- Settles O3: each word is looked up. -/
theorem wordsOfTheSpecDecode : Obligations.WordsOfTheSpecDecode := 
  ⟨rfl, rfl, rfl, rfl, rfl, rfl, rfl, rfl, rfl, rfl, rfl⟩

/-- Settles O4: each row of the decoder against the list of its keys. -/
theorem edgeKeysOutsideTheTableAreRejected : Obligations.EdgeKeysOutsideTheTableAreRejected := by
  intro key v
  simp only [decode, decodeEdge]
  split
  case h_24 => simp_all
  all_goals
    rename_i hk
    simp [hk]

end Sys2Proof

namespace Sys2Proof.Machine

/-! ### The frame image -/

/-- The parity of the lowest `n` bits is the parity of how many of them are 1 (R24, R28). -/
theorem countP_getLsbD_mod_two (b : Byte) (n : Nat) :
    ((List.range n).countP fun i => b.getLsbD i) % 2 = (parityOfLow b n).toNat := by
  induction n with
  | zero => rfl
  | succ n ih =>
    rw [List.range_succ, List.countP_append, List.countP_singleton, Nat.add_mod, ih, parityOfLow]
    cases parityOfLow b n <;> cases b.getLsbD n <;> rfl

/-- Settles O5: the image bit by bit, and among its nine bits after the start bit the eight of the byte, whose parity
the last of them complements. -/
theorem frameImageHasOddParity : Obligations.FrameImageHasOddParity := by
  intro b
  refine ⟨getLsbD_txImage_start b, fun k => getLsbD_txImage_data b k.isLt, getLsbD_txImage_stop b, ?_⟩
  have hdata : ((List.range 8).countP fun i => (txImage b).getLsbD (i + 1)) =
      (List.range 8).countP fun i => b.getLsbD i :=
    List.countP_congr fun i hi => by rw [getLsbD_txImage_data b (List.mem_range.1 hi)]
  rw [List.range_succ, List.countP_append, List.countP_singleton, hdata, Nat.add_mod, countP_getLsbD_mod_two,
    getLsbD_txImage_parity, oddParityBit]
  cases parityOfLow b 8 <;> rfl

/-! ### The output ports -/

theorem Response.toNat_word (r : Response) : r.word.toNat = r.status.code.toNat * 512 + r.value.toNat := by
  rw [Response.word, BitVec.toNat_append, ← Nat.shiftLeft_add_eq_or_of_lt r.value.isLt, Nat.shiftLeft_eq]

/-- Settles O6: the word is the two fields in their places, and the codes are those of the tables. -/
theorem outputWordsHoldTheirCodes : Obligations.OutputWordsHoldTheirCodes :=
  ⟨Response.toNat_word, rfl, rfl, rfl, rfl, rfl, rfl, rfl, rfl, rfl, rfl, rfl, rfl, rfl, rfl, rfl, rfl, rfl, rfl, rfl,
    fun _ => ⟨rfl, rfl⟩⟩

end Sys2Proof.Machine
end

section
/-! PROOFS. The step: the turns of the host, of time and of the port-level order (R150, R166, R203), why exec stops, and
that step does not stop in a state that meets the invariants (R102, R200, R230). -/

namespace Sys2Proof.Machine

/-! ### Turns of the host and of time -/

/-- Settles O7: with the indices in range no state is faulted. -/
theorem stepRunsTheDecodedOperation : Obligations.StepRunsTheDecodedOperation :=
  fun _ _ _ _ hr hf hd => step_of_run (State.not_faulted_of_inRange hr.1 hr.2) hf hd

theorem State.fetch_nil {s : State} (h : s.agenda = []) : s.fetch = s.offerDefault := by
  simp only [State.fetch, h]

theorem State.fetch_host {s : State} {rest : List Turn} (h : s.agenda = .host :: rest) :
    s.fetch = ({ s with agenda := rest } : State).offerCommand := by
  simp only [State.fetch, h]

theorem State.fetch_urgent {s : State} {rest : List Turn} (h : s.agenda = .urgent :: rest) :
    s.fetch = ({ s with agenda := rest } : State).offerUrgent := by
  simp only [State.fetch, h]

theorem State.fetch_tick {s : State} {rest : List Turn} (h : s.agenda = .tick :: rest) :
    s.fetch = if s.urgentEnabled then .run s.seqWord s else .run s.seqWord { s with agenda := rest } := by
  simp only [State.fetch, h]

theorem State.offerCommand_nil {s : State} (h : s.cmds = []) : s.offerCommand = .still s.quiet := by
  simp only [State.offerCommand, h]

theorem State.offerCommand_cons {s : State} {w : CmdWord} {ws : List CmdWord} (h : s.cmds = w :: ws) :
    s.offerCommand = if s.seq = .ready then .run (.cmd12 w) { s with cmds := ws } else .still s.quiet := by
  simp only [State.offerCommand, h]

theorem State.offerDefault_nil {s : State} (h : s.cmds = []) : s.offerDefault = .run s.seqWord s := by
  simp only [State.offerDefault, h, ite_self]

theorem State.offerDefault_cons {s : State} {w : CmdWord} {ws : List CmdWord} (h : s.cmds = w :: ws) :
    s.offerDefault = if s.urgentEnabled then .run s.seqWord s
      else if s.seq = .ready then .run (.cmd12 w) { s with cmds := ws } else .run s.seqWord s := by
  simp only [State.offerDefault, h]

/-- A turn of the host with a word on offer (R150). -/
theorem State.fetch_host_offer {s : State} {w : CmdWord} {ws : List CmdWord} {rest : List Turn}
    (ha : s.agenda = .host :: rest) (hc : s.cmds = w :: ws) :
    s.fetch = if s.seq = .ready then .run (.cmd12 w) { s with agenda := rest, cmds := ws }
      else .still ({ s with agenda := rest } : State).quiet :=
  (State.fetch_host ha).trans (State.offerCommand_cons (s := { s with agenda := rest }) hc)

/-- The word on offer is taken with SEQ = READY. -/
theorem step_host_of_ready {s : State} {w : CmdWord} {ws : List CmdWord} {rest : List Turn} {i : Instr}
    (hr : s.IndicesInRange) (ha : s.agenda = .host :: rest) (hc : s.cmds = w :: ws) (hq : s.seq = .ready)
    (hd : decode (.cmd12 w) = .ok i) : step s = exec i { s with agenda := rest, cmds := ws } :=
  step_of_run (State.not_faulted_of_inRange hr.1 hr.2) ((State.fetch_host_offer ha hc).trans (if_pos hq)) hd

/-- Settles O10: SEQ = READY, or not. -/
theorem offeredCommandRunsOrWaits : Obligations.OfferedCommandRunsOrWaits := by
  intro s w ws rest hr ha hc
  refine ⟨fun hq i => step_host_of_ready hr ha hc hq, fun hq => ?_⟩
  exact step_of_still (State.not_faulted_of_inRange hr.1 hr.2) ((State.fetch_host_offer ha hc).trans (if_neg hq))

/-- The rows of R161 to R164, one of which is the urgent step when one is enabled (R166). -/
theorem State.seqInstr_of_rtsHold {s : State} (hq : s.seq = .rtsHold) (h0 : s.holdCnt = 0) :
    s.seqInstr = .holdDoneRts := by
  simp [State.seqInstr, State.holdOver, hq, h0]

theorem State.seqInstr_of_writeHold {s : State} (hq : s.seq = .writeHold) (h0 : s.holdCnt = 0) :
    s.seqInstr = .holdDoneWrite := by
  simp [State.seqInstr, State.holdOver, hq, h0]

theorem State.seqInstr_of_resetHold {s : State} (hq : s.seq = .resetHold) (h0 : s.holdCnt = 0) :
    s.seqInstr = .resetDone := by
  simp [State.seqInstr, State.holdOver, hq, h0]

theorem State.seqInstr_of_txDone {s : State} (hq : s.seq = .writeWait) (hd : s.txDone = true) :
    s.seqInstr = .writeDone := by
  simp [State.seqInstr, State.holdOver, State.writeDoneEnabled, hq, hd]

theorem State.seqInstr_of_wdCnt_zero {s : State} (hq : s.seq = .writeWait) (hd : s.txDone = false)
    (h0 : s.wdCnt = 0) : s.seqInstr = .writeTimeout := by
  simp [State.seqInstr, State.holdOver, State.writeDoneEnabled, State.timeoutEnabled, hq, hd, h0]

theorem State.seqInstr_of_not_urgent {s : State} (hu : s.urgentEnabled = false) :
    s.seqInstr = .tick s.seq.code := by
  simp only [State.urgentEnabled, Bool.or_eq_false_iff] at hu
  simp [State.seqInstr, hu]

/-- A turn of time: the urgent step if there is one, with the turn kept, and else TICK (R166, log entry 3). -/
theorem step_tick_of_urgent {s : State} {rest : List Turn} (hr : s.IndicesInRange) (ha : s.agenda = .tick :: rest)
    (hu : s.urgentEnabled = true) : step s = exec s.seqInstr s :=
  step_of_run (State.not_faulted_of_inRange hr.1 hr.2) ((State.fetch_tick ha).trans (if_pos hu)) s.decode_seqWord

theorem step_tick_of_not_urgent {s : State} {rest : List Turn} (hr : s.IndicesInRange)
    (ha : s.agenda = .tick :: rest) (hu : s.urgentEnabled = false) :
    step s = exec (.tick s.seq.code) { s with agenda := rest } := by
  have hf : s.fetch = .run s.seqWord { s with agenda := rest } := by
    rw [State.fetch_tick ha, hu, if_neg Bool.false_ne_true]
  exact step_of_run (State.not_faulted_of_inRange hr.1 hr.2) hf
    (s.decode_seqWord.trans (congrArg _ (State.seqInstr_of_not_urgent hu)))

/-! ### Urgency -/

/-- Settles O11: the urgent step is `State.seqInstr`, and TICK asks that there be none. -/
theorem urgentStepComesBeforeTick : Obligations.UrgentStepComesBeforeTick := by
  intro s rest hr ha
  have hurgent (hu : s.urgentEnabled = true) {i : Instr} (hi : s.seqInstr = i) : step s = exec i s :=
    hi ▸ step_tick_of_urgent hr ha hu
  have hhold (hq : s.seq = .rtsHold ∨ s.seq = .writeHold ∨ s.seq = .resetHold) (h0 : s.holdCnt = 0) :
      s.urgentEnabled = true := s.urgentEnabled_iff.2 (.inl ⟨hq, h0⟩)
  have hwait (hq : s.seq = .writeWait) (h : s.txDone = true ∨ s.wdCnt = 0) : s.urgentEnabled = true :=
    s.urgentEnabled_iff.2 (.inr ⟨hq, h⟩)
  refine ⟨fun hq h0 => ?_, fun hq h0 => ?_, fun hq h0 => ?_, fun hq hd => ?_, fun hq hd h0 => ?_, fun hu => ?_,
    fun hu q => ?_⟩
  · exact hurgent (hhold (.inl hq) h0) (State.seqInstr_of_rtsHold hq h0)
  · exact hurgent (hhold (.inr (.inl hq)) h0) (State.seqInstr_of_writeHold hq h0)
  · exact hurgent (hhold (.inr (.inr hq)) h0) (State.seqInstr_of_resetHold hq h0)
  · exact hurgent (hwait hq (.inl hd)) (State.seqInstr_of_txDone hq hd)
  · exact hurgent (hwait hq (.inr h0)) (State.seqInstr_of_wdCnt_zero hq hd h0)
  · exact step_tick_of_not_urgent hr ha hu
  · rw [exec_tick, execTick, hu, Bool.not_true, Bool.and_false]
    rfl

theorem State.holdOver_iff {s : State} {q : Sequencer} : s.holdOver q = true ↔ s.seq = q ∧ s.holdCnt = 0 := by
  simp [State.holdOver]

theorem State.writeDoneEnabled_iff {s : State} :
    s.writeDoneEnabled = true ↔ s.seq = .writeWait ∧ s.txDone = true := by
  simp [State.writeDoneEnabled]

/-- The condition under which a step of the sequencer or of time is taken (R161 to R165). -/
def State.enables (s : State) : Instr → Bool
  | .holdDoneRts => s.holdOver .rtsHold
  | .holdDoneWrite => s.holdOver .writeHold
  | .resetDone => s.holdOver .resetHold
  | .writeDone => s.writeDoneEnabled
  | .writeTimeout => s.timeoutEnabled
  | .tick q => decide (s.seq.code = q) && !s.urgentEnabled
  | _ => false

/-- The one step of the sequencer or of time that is enabled is the one SEQ and its conditions select (R166). -/
theorem State.enables_iff (s : State) (i : Instr) : s.enables i = true ↔ s.seqInstr = i := by
  constructor
  · intro h
    cases i with
    | holdDoneRts =>
      obtain ⟨hq, h0⟩ := State.holdOver_iff.1 h
      exact State.seqInstr_of_rtsHold hq h0
    | holdDoneWrite =>
      obtain ⟨hq, h0⟩ := State.holdOver_iff.1 h
      exact State.seqInstr_of_writeHold hq h0
    | resetDone =>
      obtain ⟨hq, h0⟩ := State.holdOver_iff.1 h
      exact State.seqInstr_of_resetHold hq h0
    | writeDone =>
      obtain ⟨hq, hd⟩ := State.writeDoneEnabled_iff.1 h
      exact State.seqInstr_of_txDone hq hd
    | writeTimeout =>
      obtain ⟨hq, hd, h0⟩ := s.timeoutEnabled_iff.1 h
      exact State.seqInstr_of_wdCnt_zero hq hd h0
    | tick q =>
      simp only [State.enables, Bool.and_eq_true, decide_eq_true_eq, Bool.not_eq_true'] at h
      obtain ⟨rfl, hu⟩ := h
      exact State.seqInstr_of_not_urgent hu
    | _ => cases h
  · rintro rfl
    unfold State.seqInstr
    split_ifs <;> simp [State.enables, State.urgentEnabled, *]

/-- A step of the sequencer or of time answers a next state if it is enabled, and else is refused. -/
theorem exec_of_sequencer {i : Instr} (hc : contextOf i = .sequencer ∨ contextOf i = .time) (s : State) :
    ∃ t, exec i s = if s.enables i then .next t else .refused .notSelected := by
  cases i with
  | holdDoneRts | holdDoneWrite | resetDone | writeDone | writeTimeout | tick q => exact ⟨_, rfl⟩
  | _ => rcases hc with hc | hc <;> cases hc

/-- An urgent row that exec takes is the urgent step of the state (R166). -/
theorem urgent_of_exec_next {s t : State} {i : Instr}
    (hi : i ∈ [Instr.holdDoneRts, .holdDoneWrite, .resetDone, .writeDone, .writeTimeout])
    (h : exec i s = .next t) : s.urgentEnabled = true ∧ s.seqInstr = i := by
  have hc : contextOf i = .sequencer := by
    simp only [List.mem_cons, List.not_mem_nil, or_false] at hi
    rcases hi with rfl | rfl | rfl | rfl | rfl <;> rfl
  obtain ⟨u, hu⟩ := exec_of_sequencer (.inl hc) s
  have hen : s.enables i = true := by
    by_contra hn
    rw [hu, if_neg hn] at h
    cases h
  rw [State.enables_iff] at hen
  refine ⟨?_, hen⟩
  by_contra hn
  rw [State.seqInstr_of_not_urgent (by simpa using hn)] at hen
  subst hen
  cases hc

/-- Settles O12: both rows are the one urgent step of the state. -/
theorem atMostOneUrgentStepIsEnabled : Obligations.AtMostOneUrgentStepIsEnabled := by
  intro s t u i j hi hj ht hu
  exact (urgent_of_exec_next hi ht).2.symm.trans (urgent_of_exec_next hj hu).2

/-- Settles O13: what fetch offers with no turn given, by its three cases. -/
theorem portOrderWithoutATurn : Obligations.PortOrderWithoutATurn := by
  intro s hr ha
  have hf := State.not_faulted_of_inRange hr.1 hr.2
  have hoffer := State.fetch_nil ha
  refine ⟨fun i hi t h => ?_, fun hu hq w ws hc i hd => ?_, fun hu h => ?_⟩
  · obtain ⟨hu, rfl⟩ := urgent_of_exec_next hi h
    exact (step_of_run hf (hoffer.trans (if_pos hu)) s.decode_seqWord).trans h
  · refine step_of_run hf ?_ hd
    rw [hoffer, State.offerDefault_cons hc, hu, if_neg Bool.false_ne_true, if_pos hq]
  · have hrun : s.fetch = .run s.seqWord s := by
      rw [hoffer]
      cases hc : s.cmds with
      | nil => exact State.offerDefault_nil hc
      | cons w ws =>
        have hq : s.seq ≠ .ready := h.resolve_left (by simp [hc])
        rw [State.offerDefault_cons hc, hu, if_neg Bool.false_ne_true, if_neg hq]
    exact step_of_run hf hrun (s.decode_seqWord.trans (congrArg _ (State.seqInstr_of_not_urgent hu)))

end Sys2Proof.Machine
end

section
/-! PROOFS. Why exec and step stop: the fault of an index outside the buffer (R48, U6), the refusal of a row that is not
selected (R90, R161 to R165), and that neither meets a state of the invariants (R102, R200, R230). -/

namespace Sys2Proof.Machine

/-! ### The keys of edges -/

theorem Phase.code_inj {p q : Phase} (h : p.code = q.code) : p = q := by
  cases p <;> cases q <;> revert h <;> decide

/-- PHASE and POS can be read off the key (R90). -/
theorem keyOf_inj {p q : Phase} {n m : Pos} : keyOf p n = keyOf q m ↔ p = q ∧ n = m := by
  refine ⟨fun h => ?_, fun h => h.1 ▸ h.2 ▸ rfl⟩
  have hphase : p.code = q.code := by
    have := congrArg (BitVec.extractLsb' 4 3) h
    rwa [keyOf, keyOf, BitVec.extractLsb'_append_eq_left, BitVec.extractLsb'_append_eq_left] at this
  have hpos : n.val % 16 = m.val % 16 := by
    have := congrArg (fun key => (BitVec.extractLsb' 0 4 key).toNat) h
    simpa only [keyOf, BitVec.extractLsb'_append_eq_right, BitVec.toNat_ofNat] using this
  exact ⟨Phase.code_inj hphase, Fin.ext (by omega)⟩

theorem rxPos_eq_zero {s : State} (h : s.PositionsMatchPhase) (hp : s.phase ≠ .receiving) : s.rxPos = 0 :=
  not_not.1 (mt h.1.2 hp)

theorem txPos_eq_zero {s : State} (h : s.PositionsMatchPhase) (hp : s.phase ≠ .sending) : s.txPos = 0 :=
  not_not.1 (mt h.2.2 hp)

theorem State.edgeKey_eq_receiving_iff {s : State} {n : Pos} :
    s.edgeKey = keyOf .receiving n ↔ s.phase = .receiving ∧ s.rxPos = n := by
  rw [State.edgeKey, keyOf_inj]
  exact and_congr_right fun hp => by rw [State.pos, hp]

theorem State.edgeKey_eq_sending_iff {s : State} {n : Pos} :
    s.edgeKey = keyOf .sending n ↔ s.phase = .sending ∧ s.txPos = n := by
  rw [State.edgeKey, keyOf_inj]
  exact and_congr_right fun hp => by rw [State.pos, hp]

theorem State.edgeKey_eq_rts_iff {s : State} {n : Pos} :
    s.edgeKey = keyOf .rts n ↔ s.phase = .rts ∧ s.txPos = n := by
  rw [State.edgeKey, keyOf_inj]
  exact and_congr_right fun hp => by rw [State.pos, hp]

/-- A row other than the first of TX_DATA has one key, the one it is encoded with (R90). -/
theorem decode_edge_iff {key key' : EdgeKey} {v : Bool} {i : Instr} (hi : encode i = .edge key v)
    (hne : ∀ w, i ≠ .txData0 w) : (∃ w, decode (.edge key' w) = .ok i) ↔ key' = key := by
  constructor
  · rintro ⟨w, hw⟩
    obtain he | ⟨-, h0⟩ := encode_of_decodeEdge hw
    · exact (OpWord.edge.inj (he.symm.trans hi)).1
    · exact absurd h0 (hne w)
  · rintro rfl
    have hwf : i.wellFormed = true := Instr.wellFormed_of_tick_legal fun q hq => by subst hq; cases hi
    exact ⟨v, hi ▸ decodeOfEncodeIsIdentity i hwf⟩

/-! ### What each context's operations can come to -/

/-- A next state, or the one fault, with an index outside the buffer. -/
def Answers (s : State) (r : Result) : Prop := (∃ t, r = .next t) ∨ (r = .fault .noSuchSlot ∧ ¬ s.IndicesInRange)

theorem answers_next (s t : State) : Answers s (.next t) := .inl ⟨t, rfl⟩

theorem answers_withIndices {s u : State} {k : State → Result} (hk : Answers s (k u))
    (hu : u.IndicesInRange ↔ s.IndicesInRange) : Answers s (u.withIndices k) := by
  unfold State.withIndices
  split
  · exact hk
  · rename_i hn
    exact .inr ⟨rfl, fun hr => hn (u.indicesOk_iff.2 (hu.2 hr))⟩

theorem answers_of_accept {s : State} {i : Instr} {k : State → Result} (hx : exec i s = s.accept k)
    (hk : Answers s (k s.quiet)) : Answers s (exec i s) := by
  rw [hx, State.accept]
  split
  · exact hk
  · exact answers_next s _

/-- A host command is never refused. -/
theorem answers_of_command {i : Instr} (hc : contextOf i = .command) (s : State) : Answers s (exec i s) := by
  have hreserved (k : Fin 7) (a : Byte) : Answers s (exec (reservedRow k a) s) :=
    answers_of_accept (exec_reservedRow k a s) (answers_next s _)
  cases i with
  | hostBegin a => exact answers_of_accept (exec_hostBegin a s) (answers_next s _)
  | hostAvailable a =>
    exact answers_of_accept (exec_hostAvailable a s) (answers_withIndices (answers_next s _) Iff.rfl)
  | hostRead a =>
    refine answers_of_accept (exec_hostRead a s) (answers_withIndices ?_ Iff.rfl)
    split <;> exact answers_next s _
  | hostWrite a =>
    refine answers_of_accept (exec_hostWrite a s) ?_
    split <;> exact answers_next s _
  | hostFlush ignored tx rx => exact answers_of_accept (exec_hostFlush ignored tx rx s) (answers_next s _)
  | hostReset a => exact answers_of_accept (exec_hostReset a s) (answers_next s _)
  | hostSuspend a =>
    refine answers_of_accept (exec_hostSuspend a s) ?_
    split <;> exact answers_next s _
  | hostResume a => exact answers_of_accept (exec_hostResume a s) (answers_next s _)
  | hostRts a =>
    refine answers_of_accept (exec_hostRts a s) ?_
    split <;> exact answers_next s _
  | reserved9 a => exact hreserved 0 a
  | reservedA a => exact hreserved 1 a
  | reservedB a => exact hreserved 2 a
  | reservedC a => exact hreserved 3 a
  | reservedD a => exact hreserved 4 a
  | reservedE a => exact hreserved 5 a
  | reservedF a => exact hreserved 6 a
  | _ => cases hc

/-- The edge micro-operation `i` is taken where `selected` holds, on a qualifying edge; `selected` is what the key says
(R90), where the positions are those of the phase (R46). -/
structure EdgeRow (i : Instr) (s : State) (selected : Bool) (k : State → Result) : Prop where
  exec_eq : exec i s = s.onEdge selected k
  answers : Answers s (k s.quiet)
  selected_of_key : (∃ v, decode (.edge s.edgeKey v) = .ok i) → selected = true
  key_of_selected : s.PositionsMatchPhase → selected = true → ∃ v, decode (.edge s.edgeKey v) = .ok i

theorem edgeRow_receiving {i : Instr} {n : Pos} {v : Bool} {s : State} {k : State → Result}
    (hi : encode i = .edge (keyOf .receiving n) v)
    (hx : exec i s = s.onEdge (decide (s.phase = .receiving) && decide (s.rxPos = n)) k) (ha : Answers s (k s.quiet)) :
    EdgeRow i s (decide (s.phase = .receiving) && decide (s.rxPos = n)) k := by
  have hkey : (∃ v, decode (.edge s.edgeKey v) = .ok i) ↔ s.phase = .receiving ∧ s.rxPos = n := by
    rw [decode_edge_iff hi, State.edgeKey_eq_receiving_iff]
    rintro w rfl
    exact absurd (keyOf_inj (p := .rts) (n := 0).1 (OpWord.edge.inj hi).1).1 (by simp)
  exact ⟨hx, ha, fun h => by simpa using hkey.1 h, fun _ h => hkey.2 (by simpa using h)⟩

theorem edgeRow_sending {i : Instr} {n : Pos} {v : Bool} {s : State} {k : State → Result}
    (hi : encode i = .edge (keyOf .sending n) v)
    (hx : exec i s = s.onEdge (decide (s.phase = .sending) && decide (s.txPos = n)) k) (ha : Answers s (k s.quiet)) :
    EdgeRow i s (decide (s.phase = .sending) && decide (s.txPos = n)) k := by
  have hkey : (∃ v, decode (.edge s.edgeKey v) = .ok i) ↔ s.phase = .sending ∧ s.txPos = n := by
    rw [decode_edge_iff hi, State.edgeKey_eq_sending_iff]
    rintro w rfl
    exact absurd (keyOf_inj (p := .rts) (n := 0).1 (OpWord.edge.inj hi).1).1 (by simp)
  exact ⟨hx, ha, fun h => by simpa using hkey.1 h, fun _ h => hkey.2 (by simpa using h)⟩

theorem edgeRow_rxStart (v : Bool) (s : State) : ∃ k, EdgeRow (.rxStart v) s (decide (s.phase = .idle)) k := by
  have hkey : (∃ w, decode (.edge s.edgeKey w) = .ok (.rxStart v)) ↔ s.edgeKey = keyOf .idle 0 :=
    decode_edge_iff rfl (by simp)
  refine ⟨_, exec_rxStart v s, ?_, fun h => ?_, fun hpos h => ?_⟩
  · simp only
    split <;> exact answers_next s _
  · exact decide_eq_true (keyOf_inj.1 (hkey.1 h)).1
  · have hp : s.phase = .idle := of_decide_eq_true h
    exact ⟨v, State.decode_edgeKey_idle v hp (rxPos_eq_zero hpos (by simp [hp]))⟩

theorem edgeRow_txData0 (v : Bool) (s : State) :
    ∃ b k, EdgeRow (.txData0 v) s b k := by
  refine ⟨_, _, exec_txData0 v s, answers_next s _, fun ⟨w, hw⟩ => ?_, fun _ h => ?_⟩
  · have hkey : s.edgeKey = keyOf .rts 0 ∨ s.edgeKey = keyOf .sending 0 := by
      obtain he | ⟨h30, -⟩ := encode_of_decodeEdge hw
      · exact .inl (OpWord.edge.inj he).1.symm
      · exact .inr h30
    rw [State.edgeKey_eq_rts_iff, State.edgeKey_eq_sending_iff] at hkey
    rcases hkey with ⟨hp, hn⟩ | ⟨hp, hn⟩ <;> simp [hp, hn]
  · simp only [Bool.and_eq_true, Bool.or_eq_true, decide_eq_true_eq] at h
    obtain ⟨hp, hn⟩ := h
    exact ⟨v, State.decode_edgeKey_txData (k := 0) v (congrArg Fin.val hn) (hp.symm.imp_right fun h => ⟨h, rfl⟩)⟩

theorem edgeRow_rxStop (v : Bool) (s : State) : ∃ k, EdgeRow (.rxStop v) s
    (decide (s.phase = .receiving) && decide (s.rxPos = 10)) k := by
  refine ⟨_, edgeRow_receiving rfl (exec_rxStop v s) ?_⟩
  simp only
  split
  · exact answers_withIndices (answers_next s _) Iff.rfl
  · exact answers_next s _

theorem exists_edgeRow {i : Instr} (hc : contextOf i = .engine) (s : State) : ∃ b k, EdgeRow i s b k := by
  cases i with
  | rxStart v => exact ⟨_, edgeRow_rxStart v s⟩
  | rxData1 v => exact ⟨_, _, edgeRow_receiving (n := 1) rfl (exec_rxDataRow 0 v s) (answers_next s _)⟩
  | rxData2 v => exact ⟨_, _, edgeRow_receiving (n := 2) rfl (exec_rxDataRow 1 v s) (answers_next s _)⟩
  | rxData3 v => exact ⟨_, _, edgeRow_receiving (n := 3) rfl (exec_rxDataRow 2 v s) (answers_next s _)⟩
  | rxData4 v => exact ⟨_, _, edgeRow_receiving (n := 4) rfl (exec_rxDataRow 3 v s) (answers_next s _)⟩
  | rxData5 v => exact ⟨_, _, edgeRow_receiving (n := 5) rfl (exec_rxDataRow 4 v s) (answers_next s _)⟩
  | rxData6 v => exact ⟨_, _, edgeRow_receiving (n := 6) rfl (exec_rxDataRow 5 v s) (answers_next s _)⟩
  | rxData7 v => exact ⟨_, _, edgeRow_receiving (n := 7) rfl (exec_rxDataRow 6 v s) (answers_next s _)⟩
  | rxData8 v => exact ⟨_, _, edgeRow_receiving (n := 8) rfl (exec_rxDataRow 7 v s) (answers_next s _)⟩
  | rxParity v => exact ⟨_, _, edgeRow_receiving (n := 9) rfl (exec_rxParity v s) (answers_next s _)⟩
  | rxStop v => exact ⟨_, edgeRow_rxStop v s⟩
  | txData0 v => exact edgeRow_txData0 v s
  | txData1 v => exact ⟨_, _, edgeRow_sending (n := 1) rfl (exec_txDataRow_succ 0 v s) (answers_next s _)⟩
  | txData2 v => exact ⟨_, _, edgeRow_sending (n := 2) rfl (exec_txDataRow_succ 1 v s) (answers_next s _)⟩
  | txData3 v => exact ⟨_, _, edgeRow_sending (n := 3) rfl (exec_txDataRow_succ 2 v s) (answers_next s _)⟩
  | txData4 v => exact ⟨_, _, edgeRow_sending (n := 4) rfl (exec_txDataRow_succ 3 v s) (answers_next s _)⟩
  | txData5 v => exact ⟨_, _, edgeRow_sending (n := 5) rfl (exec_txDataRow_succ 4 v s) (answers_next s _)⟩
  | txData6 v => exact ⟨_, _, edgeRow_sending (n := 6) rfl (exec_txDataRow_succ 5 v s) (answers_next s _)⟩
  | txData7 v => exact ⟨_, _, edgeRow_sending (n := 7) rfl (exec_txDataRow_succ 6 v s) (answers_next s _)⟩
  | txParity v => exact ⟨_, _, edgeRow_sending (n := 8) rfl (exec_txParity v s) (answers_next s _)⟩
  | txStop v => exact ⟨_, _, edgeRow_sending (n := 9) rfl (exec_txStop v s) (answers_next s _)⟩
  | txAck v => exact ⟨_, _, edgeRow_sending (n := 10) rfl (exec_txAck v s) (answers_next s _)⟩
  | _ => cases hc

/-- An edge micro-operation answers, or the edge qualifies and the key selects another row. -/
theorem answers_of_engine {i : Instr} (hc : contextOf i = .engine) (s : State) :
    Answers s (exec i s) ∨ (exec i s = .refused .notSelected ∧ s.ien = true ∧ s.hclk = false ∧
      ∀ v, decode (.edge s.edgeKey v) ≠ .ok i) := by
  obtain ⟨b, k, hrow⟩ := exists_edgeRow hc s
  rw [hrow.exec_eq, State.onEdge, State.qualifies]
  split
  · rename_i hq
    simp only [Bool.and_eq_true, Bool.not_eq_true'] at hq
    split
    · exact .inl hrow.answers
    · rename_i hb
      exact .inr ⟨rfl, hq.1, hq.2, fun v hv => hb (hrow.selected_of_key ⟨v, hv⟩)⟩
  · exact .inl (answers_next s _)

/-- Of the rows that the key does not select, none is taken on a qualifying edge (R46, R90). -/
theorem exec_engine_of_not_keyed {i : Instr} {s : State} (hc : contextOf i = .engine) (hi : s.ien = true)
    (hclk : s.hclk = false) (hpos : s.PositionsMatchPhase) (hkey : ∀ v, decode (.edge s.edgeKey v) ≠ .ok i) :
    exec i s = .refused .notSelected := by
  obtain ⟨b, k, hrow⟩ := exists_edgeRow hc s
  have hb : ¬ b = true := fun hb => (hrow.key_of_selected hpos hb).elim hkey
  rw [hrow.exec_eq, State.onEdge, State.qualifies, hi, hclk]
  exact if_neg hb

theorem State.decode_seqWord_eq_ok_iff (s : State) (i : Instr) : decode s.seqWord = .ok i ↔ s.enables i = true := by
  rw [s.decode_seqWord, Except.ok.injEq, s.enables_iff]

/-- Every operation answers, or is refused where another is selected, and so in each context. -/
theorem answers_or_refused (i : Instr) (s : State) :
    Answers s (exec i s) ∨ (exec i s = .refused .notSelected ∧ contextOf i ≠ .command ∧
      (contextOf i = .engine → s.ien = true ∧ s.hclk = false ∧ ∀ v, decode (.edge s.edgeKey v) ≠ .ok i) ∧
      (contextOf i = .sequencer ∨ contextOf i = .time → decode s.seqWord ≠ .ok i)) := by
  have hseq (hc : contextOf i = .sequencer ∨ contextOf i = .time) :
      Answers s (exec i s) ∨ (exec i s = .refused .notSelected ∧ decode s.seqWord ≠ .ok i) := by
    obtain ⟨t, ht⟩ := exec_of_sequencer hc s
    rw [ht, ne_eq, State.decode_seqWord_eq_ok_iff]
    split_ifs with hen
    · exact .inl (answers_next s t)
    · exact .inr ⟨rfl, hen⟩
  cases hc : contextOf i with
  | command => exact .inl (answers_of_command hc s)
  | engine =>
    refine (answers_of_engine hc s).imp_right fun ⟨hx, hrow⟩ => ⟨hx, by simp, fun _ => hrow, by simp⟩
  | sequencer => exact (hseq (.inl hc)).imp_right fun ⟨hx, hne⟩ => ⟨hx, by simp, by simp, fun _ => hne⟩
  | time => exact (hseq (.inr hc)).imp_right fun ⟨hx, hne⟩ => ⟨hx, by simp, by simp, fun _ => hne⟩

/-- Settles O47: an operation answers or is refused (`answers_or_refused`), and what is not selected is refused. -/
theorem stopsHaveTheirNames : Obligations.StopsHaveTheirNames := by
  intro i s
  refine ⟨fun f hf => ?_, fun r hr => ?_, exec_engine_of_not_keyed, fun hc hne => ?_⟩
  · obtain (⟨t, ht⟩ | ⟨hx, hidx⟩) | ⟨hx, -⟩ := answers_or_refused i s
    · cases ht.symm.trans hf
    · cases hx.symm.trans hf
      exact ⟨rfl, hidx⟩
    · cases hx.symm.trans hf
  · obtain (⟨t, ht⟩ | ⟨hx, -⟩) | ⟨hx, hrow⟩ := answers_or_refused i s
    · cases ht.symm.trans hr
    · cases hx.symm.trans hr
    · cases hx.symm.trans hr
      exact ⟨rfl, hrow⟩
  · obtain ⟨t, ht⟩ := exec_of_sequencer hc s
    rw [ht, if_neg fun hen => hne ((s.decode_seqWord_eq_ok_iff i).2 hen)]

/-! ### Step -/

theorem SameBlock.inRange {s u : State} (h : SameBlock s u) : u.IndicesInRange ↔ s.IndicesInRange := by
  rw [h.eq]

theorem SameBlock.edgeKey {s u : State} (h : SameBlock s u) : u.edgeKey = s.edgeKey := by
  rw [h.eq]
  rfl

theorem SameBlock.seqWord {s u : State} (h : SameBlock s u) : u.seqWord = s.seqWord := by
  rw [h.eq]
  rfl

/-- What fetch hands to exec is a selector that decodes, unless it is the key of a qualifying edge. -/
theorem edge_of_decode_error {s u : State} {w : OpWord} {e : DecodeError} (hf : s.fetch = .run w u)
    (hd : decode w = .error e) : s.hclk = false ∧ ∃ v, decode (.edge s.edgeKey v) = .error e := by
  obtain ⟨-, ⟨v, rfl, -, hclk⟩ | ⟨c, rfl, -⟩ | rfl⟩ := State.fetch_run hf
  · exact ⟨hclk, v, hd⟩
  · obtain ⟨i, hi, -⟩ := exists_decode_cmd12 c
    cases hi.symm.trans hd
  · cases s.decode_seqWord.symm.trans hd

/-- An operation runs only in a state whose indices are those of slots (R48). -/
theorem State.inRange_of_fetch_run {s u : State} {w : OpWord} (hn : s.faulted = false) (hf : s.fetch = .run w u) :
    u.IndicesInRange := by
  rw [(State.fetch_run hf).1.inRange]
  by_contra hr
  refine Bool.false_ne_true (hn.symm.trans (s.faulted_iff.2 ⟨hr, fun rest ha => ?_⟩))
  cases (State.fetch_powerOn ha).symm.trans hf

/-- Step beyond the test of the indices faults only on an edge whose key the table of R90 does not list. -/
theorem undecodable_of_step_fault {s : State} {f : Fault} (hn : s.faulted = false) (hf : step s = .fault f) :
    ∃ v e, f = .undecodable e ∧ decode (.edge s.edgeKey v) = .error e := by
  unfold step at hf
  rw [if_neg (by simp [hn])] at hf
  split at hf
  · cases hf
  · rename_i w u hfetch
    split at hf
    · rename_i i hd
      exact absurd (State.inRange_of_fetch_run hn hfetch) ((stopsHaveTheirNames i u).1 f hf).2
    · rename_i e hd
      cases hf
      obtain ⟨-, v, hv⟩ := edge_of_decode_error hfetch hd
      exact ⟨v, e, rfl, hv⟩

/-- Settles O60: in a faulted state step is that fault, and in any other its fault is `undecodable`. -/
theorem anIndexOutsideTheBufferFaultsTheState : Obligations.AnIndexOutsideTheBufferFaultsTheState := by
  intro s
  rw [← State.faulted_iff]
  cases hn : s.faulted with
  | true =>
    rw [step_of_faulted hn]
    refine ⟨by simp, fun f hf hne => ?_⟩
    cases hf
    exact absurd rfl hne
  | false =>
    refine ⟨⟨fun hf => ?_, by simp⟩, fun f hf _ => undecodable_of_step_fault hn hf⟩
    obtain ⟨_, _, h, -⟩ := undecodable_of_step_fault hn hf
    cases h

theorem contextOf_of_decode_edge {key : EdgeKey} {v : Bool} {i : Instr} (h : decode (.edge key v) = .ok i) :
    contextOf i = .engine := by
  obtain he | ⟨-, rfl⟩ := encode_of_decodeEdge h
  · rw [contextOf, he]
  · rfl

/-- Fetch never hands exec an operation that is not selected: a command is always taken or waits, an edge comes with the
state's own key, and a step of the sequencer or of time with its own SEQ. -/
theorem exec_ne_refused_of_fetch_run {s u : State} {w : OpWord} {i : Instr} (hf : s.fetch = .run w u)
    (hd : decode w = .ok i) (r : Refusal) : exec i u ≠ .refused r := by
  intro hr
  obtain ⟨-, hcmd, hedge, hseq⟩ := (stopsHaveTheirNames i u).2.1 r hr
  obtain ⟨hsame, ⟨v, rfl, -⟩ | ⟨c, rfl, -⟩ | rfl⟩ := State.fetch_run hf
  · obtain ⟨-, -, hne⟩ := hedge (contextOf_of_decode_edge hd)
    exact hne v (hsame.edgeKey ▸ hd)
  · obtain ⟨j, hj, -, he⟩ := exists_decode_cmd12 c
    cases hj.symm.trans hd
    exact hcmd (by rw [contextOf, he])
  · have hc : contextOf i = .sequencer ∨ contextOf i = .time := by
      obtain ⟨a, b, c, he, -⟩ := encode_of_decodeSeq hd
      rw [contextOf, he]
      cases a <;> cases b <;> cases c <;> simp
    exact hseq hc (hsame.seqWord ▸ hd)

/-- With the positions those of the phase, the key of a qualifying edge is in the table (R46, R90). -/
theorem exists_decode_edgeKey {s : State} (v : Bool) (hpos : s.PositionsMatchPhase) (hp : s.phase ≠ .suspended) :
    ∃ i, decode (.edge s.edgeKey v) = .ok i := by
  cases hphase : s.phase with
  | idle => exact ⟨_, State.decode_edgeKey_idle v hphase (rxPos_eq_zero hpos (by simp [hphase]))⟩
  | receiving =>
    have h0 : s.rxPos.val ≠ 0 := fun h => hpos.1.1 hphase (Fin.ext h)
    obtain hk | hk | hk : s.rxPos.val - 1 < 8 ∨ s.rxPos.val = 9 ∨ s.rxPos.val = 10 := by omega
    · exact ⟨_, State.decode_edgeKey_rxData (k := ⟨_, hk⟩) v hphase (by simp only; omega)⟩
    · exact ⟨_, State.decode_edgeKey_rxParity v hphase (Fin.ext hk)⟩
    · exact ⟨_, State.decode_edgeKey_rxStop v hphase (Fin.ext hk)⟩
  | rts =>
    have h0 : s.txPos = 0 := txPos_eq_zero hpos (by simp [hphase])
    exact ⟨_, State.decode_edgeKey_txData (k := 0) v (congrArg Fin.val h0) (.inr ⟨hphase, rfl⟩)⟩
  | sending =>
    obtain hk | hk | hk | hk : s.txPos.val < 8 ∨ s.txPos.val = 8 ∨ s.txPos.val = 9 ∨ s.txPos.val = 10 := by omega
    · exact ⟨_, State.decode_edgeKey_txData (k := ⟨_, hk⟩) v rfl (.inl hphase)⟩
    · exact ⟨_, State.decode_edgeKey_txParity v hphase (Fin.ext hk)⟩
    · exact ⟨_, State.decode_edgeKey_txStop v hphase (Fin.ext hk)⟩
    · exact ⟨_, State.decode_edgeKey_txAck v hphase (Fin.ext hk)⟩
  | suspended => exact absurd hphase hp

/-- Settles O53: the indices are in range, what is selected decodes, since an edge of a suspended block does not
qualify, and what is decoded is not refused. -/
theorem nothingStopsTheBlock : Obligations.NothingStopsTheBlock := by
  intro s hinv
  obtain ⟨-, hr, hpos, -, -, hsuspend, -⟩ := hinv
  have hn : s.faulted = false := State.not_faulted_of_inRange hr.1 hr.2
  cases hf : s.fetch with
  | still t => exact ⟨t, step_of_still hn hf⟩
  | run w u =>
    cases hd : decode w with
    | error e =>
      obtain ⟨hclk, v, hv⟩ := edge_of_decode_error hf hd
      have hp : s.phase ≠ .suspended := fun hp => Bool.false_ne_true (hclk.symm.trans (hsuspend hp).1)
      obtain ⟨i, hi⟩ := exists_decode_edgeKey v hpos hp
      cases hi.symm.trans hv
    | ok i =>
      obtain (⟨t, ht⟩ | ⟨-, hidx⟩) | ⟨hx, -⟩ := answers_or_refused i u
      · exact ⟨t, (step_of_run hn hf hd).trans ht⟩
      · exact absurd (State.inRange_of_fetch_run hn hf) hidx
      · exact absurd hx (exec_ne_refused_of_fetch_run hf hd _)

end Sys2Proof.Machine
end

section
/-! PROOFS. What every step keeps: the invariants of R34 and R46, the shape of the frame being received (R23 to R25),
the canonical form of the buffer memory, and that stored slots have been written (R32); and that power-on meets them. -/

namespace Sys2Proof.Machine

/-! ### From operations to steps -/

/-- A property that the inputs still to come, CLKPREV and the outputs do not touch is kept by every step if power-on and
every operation that is taken keep it. -/
theorem step_keeps {P : State → Prop} (hinputs : ∀ {s u}, SameBlock s u → P s → P u)
    (hquiet : ∀ {s}, P s → P s.quiet) (hpowerOn : ∀ {s}, P s → P s.powerOn)
    (htook : ∀ {s t i}, Took s i t → P s → P t) {s t : State} (hs : P s) (h : step s = .next t) : P t := by
  obtain ⟨u, hu, rfl⟩ | ⟨rest, -, rfl⟩ | ⟨u, i, hu, hx⟩ := step_next h
  · exact hquiet (hinputs hu hs)
  · exact hpowerOn (hinputs ⟨rfl⟩ hs)
  · obtain ⟨-, rfl⟩ | ht := exec_next hx
    · exact hquiet (hinputs hu hs)
    · exact htook ht (hinputs hu hs)

/-! ### The invariants, one by one -/

theorem positionsMatchPhase_of_zero {t : State} (hrx : t.phase ≠ .receiving) (htx : t.phase ≠ .sending)
    (hr0 : t.rxPos = 0) (ht0 : t.txPos = 0) : t.PositionsMatchPhase :=
  ⟨iff_of_false hrx (not_not.2 hr0), iff_of_false htx (not_not.2 ht0)⟩

theorem val_add_one_of_lt {k : Pos} (hk : k.val < 10) : (k + 1).val = k.val + 1 :=
  Fin.val_add_one_of_lt' (by omega)

/-- A position that moves on inside a frame is not 0. -/
theorem add_one_ne_zero_of_lt {k : Pos} (hk : k.val < 10) : k + 1 ≠ 0 := by
  intro h
  exact Nat.succ_ne_zero _ ((val_add_one_of_lt hk).symm.trans (congrArg Fin.val h))

section Kept

variable {s t : State} {i : Instr}

theorem Took.params_eq (h : Took s i t) : t.params = s.params := by
  cases h <;> rfl

theorem Took.indicesInRange (h : Took s i t) (hr : s.IndicesInRange) : t.IndicesInRange := by
  have h0 : 0 < s.params.bufSlots := Nat.zero_lt_of_lt hr.1
  cases h with
  | begin | reset => exact ⟨h0, h0⟩
  | readOldest => exact ⟨State.nextIndex_lt _ h0, hr.2⟩
  | rxStored => exact ⟨hr.1, State.nextIndex_lt _ h0⟩
  | flush _ _ rx =>
    cases rx
    · exact hr
    · exact ⟨h0, h0⟩
  | _ => exact hr

/-- A position is 0 where a frame begins or ends, and the other one is 0 since PHASE was not its own. -/
theorem Took.positionsMatchPhase (h : Took s i t) (hpos : s.PositionsMatchPhase) (hwait : s.WaitShape) :
    t.PositionsMatchPhase := by
  have hrx0 : s.phase ≠ .receiving → s.rxPos = 0 := rxPos_eq_zero hpos
  have htx0 : s.phase ≠ .sending → s.txPos = 0 := txPos_eq_zero hpos
  cases h with
  | begin | reset => exact positionsMatchPhase_of_zero nofun nofun rfl rfl
  | write _ _ hp | rts _ _ hp =>
    exact positionsMatchPhase_of_zero nofun nofun (hrx0 (by simp [hp])) rfl
  | suspend _ _ hp | resume _ _ hp =>
    exact positionsMatchPhase_of_zero nofun nofun (hrx0 (by simp [hp])) (htx0 (by simp [hp]))
  | rxStart _ _ _ hp =>
    exact ⟨iff_of_true rfl (by simp), iff_of_false nofun (not_not.2 (htx0 (by simp [hp])))⟩
  | rxMalformed _ _ _ hp | rxDropped _ _ _ _ _ hp | rxStored _ _ _ hp =>
    exact positionsMatchPhase_of_zero nofun nofun rfl (htx0 (by simp [hp]))
  | rxData _ k _ _ _ hp _ _ hk => exact ⟨iff_of_true hp (add_one_ne_zero_of_lt (by omega)), hpos.2⟩
  | rxParity _ _ _ _ _ hp => exact ⟨iff_of_true hp (by simp), hpos.2⟩
  | txFirst _ _ _ hp =>
    have hrx : s.rxPos = 0 := hrx0 (by rcases hp with hp | hp <;> simp [hp])
    exact ⟨iff_of_false nofun (not_not.2 hrx), iff_of_true rfl (by simp)⟩
  | txData _ p _ _ hp _ _ hp7 =>
    have hrx : s.rxPos = 0 := hrx0 (by simp [hp])
    exact ⟨iff_of_false nofun (not_not.2 hrx), iff_of_true rfl (add_one_ne_zero_of_lt (by omega))⟩
  | txParity _ _ _ hp | txStop _ _ _ hp => exact ⟨hpos.1, iff_of_true hp (by simp)⟩
  | txAck _ _ _ hp => exact positionsMatchPhase_of_zero nofun nofun (hrx0 (by simp [hp])) rfl
  | writeTimeout hq hd =>
    have hrx : s.rxPos = 0 := hrx0 (by rcases hwait hq hd with hp | hp <;> simp [hp])
    exact positionsMatchPhase_of_zero nofun nofun hrx rfl
  | _ => exact hpos

/-- A hold begins in PHASE = IDLE, where nothing drives DATA, and no edge qualifies while CLOCK is held low. -/
theorem Took.holdShape (h : Took s i t) (hhold : s.HoldShape) (hdrv : s.DriversShape) : t.HoldShape := by
  cases h with
  | write _ hq hp | rts _ hq hp =>
    have hdat : s.hdat = false := Bool.eq_false_iff.2 fun hd => by simpa [hp, hq] using hdrv.1 hd
    exact fun _ => ⟨rfl, rfl, hdat⟩
  | rxStart _ _ hc | rxMalformed _ _ hc | rxData _ _ _ _ hc | rxParity _ _ _ _ hc | rxDropped _ _ _ _ hc
  | rxStored _ _ hc | txFirst _ _ hc | txData _ _ _ hc | txParity _ _ hc | txStop _ _ hc | txAck _ _ hc =>
    exact fun hq => absurd (hc.symm.trans (hhold hq).2.1) nofun
  | begin _ hq | suspend _ hq | resume _ hq => exact fun h => by simp [hq] at h
  | reset | holdDoneRts | holdDoneWrite | resetDone | writeDone | writeTimeout => exact fun h => by simp at h
  | _ => exact hhold

/-- A WRITE begins to wait in PHASE = RTS, and its frame goes on to SENDING and ends with TXDONE = 1. -/
theorem Took.waitShape (h : Took s i t) (hwait : s.WaitShape) (hhold : s.HoldShape) : t.WaitShape := by
  cases h with
  | holdDoneWrite hq => exact fun _ _ => .inl (hhold (.inr hq)).1
  | txFirst | txData => exact fun _ _ => .inr rfl
  | txAck => exact fun _ => nofun
  | begin _ hq | flush _ _ _ _ hq | suspend _ hq | resume _ hq => exact fun hw => absurd (hq.symm.trans hw) nofun
  | rxStart _ _ _ hp | rxMalformed _ _ _ hp | rxDropped _ _ _ _ _ hp | rxStored _ _ _ hp =>
    exact fun hw hd => absurd (hwait hw hd) (by simp [hp])
  | write | rts | reset | holdDoneRts | resetDone | writeDone | writeTimeout => exact nofun
  | _ => exact hwait

/-- Only SUSPEND ends in the wait state from outside, and no step of the sequencer is taken in it. -/
theorem Took.suspendShape (h : Took s i t) (hsuspend : s.SuspendShape) : t.SuspendShape := by
  cases h with
  | suspend _ hq => exact fun _ => ⟨rfl, hq⟩
  | holdDoneRts hq | holdDoneWrite hq | resetDone hq | writeDone hq =>
    exact fun hp => absurd (hq.symm.trans (hsuspend hp).2) nofun
  | begin | reset | write | rts | resume | rxStart | rxMalformed | rxDropped | rxStored | txFirst | txData | txAck
  | writeTimeout => exact nofun
  | _ => exact hsuspend

/-- RESET begins its hold with both lines low and the buffer empty, and neither an edge nor a command changes it. -/
theorem Took.resetShape (h : Took s i t) (hreset : s.ResetShape) : t.ResetShape := by
  cases h with
  | reset => exact fun _ => ⟨rfl, rfl, rfl, rfl, rfl⟩
  | rxStart _ _ hc | rxMalformed _ _ hc | rxData _ _ _ _ hc | rxParity _ _ _ _ hc | rxDropped _ _ _ _ hc
  | rxStored _ _ hc | txFirst _ _ hc | txData _ _ _ hc | txParity _ _ hc | txStop _ _ hc | txAck _ _ hc =>
    exact fun hq => absurd (hc.symm.trans (hreset hq).2.1) nofun
  | begin _ hq | readOldest _ hq | flush _ _ _ _ hq | suspend _ hq | resume _ hq =>
    exact fun h => absurd (hq.symm.trans h) nofun
  | write | rts | holdDoneRts | holdDoneWrite | resetDone | writeDone | writeTimeout => exact nofun
  | _ => exact hreset

/-- HOLD_DONE puts the start bit on DATA, and what ends PHASE = RTS is another PHASE. -/
theorem Took.pendingShape (h : Took s i t) (hpend : s.PendingShape) (hreset : s.ResetShape) : t.PendingShape := by
  cases h with
  | holdDoneRts | holdDoneWrite => exact fun _ _ => ⟨rfl, rfl⟩
  | resetDone hq => exact fun hp => absurd ((hreset hq).1.symm.trans hp) nofun
  | writeDone hq => exact fun hp _ => hpend hp (.inr hq)
  | write | rts => exact fun _ h => by simp at h
  | txParity _ _ _ hp | txStop _ _ _ hp => exact fun h => absurd (hp.symm.trans h) nofun
  | begin | reset | suspend | resume | rxStart | rxMalformed | rxDropped | rxStored | txFirst | txData | txAck
  | writeTimeout => exact nofun
  | _ => exact hpend

/-- HOLDCNT is loaded where a hold begins, and a hold ends only with HOLDCNT = 0. -/
theorem Took.holdCounterShape (h : Took s i t) (hcnt : s.HoldCounterShape) : t.HoldCounterShape := by
  cases h with
  | tick q =>
    refine fun hne => hcnt fun h0 => hne ?_
    simp [State.countDown, h0]
  | write => exact fun _ => .inr (.inl rfl)
  | reset => exact fun _ => .inr (.inr rfl)
  | rts => exact fun _ => .inl rfl
  | holdDoneRts _ h0 | holdDoneWrite _ h0 | resetDone _ h0 => exact fun hne => absurd h0 hne
  | writeDone hq | writeTimeout hq => exact fun hne => by simpa [hq] using hcnt hne
  | _ => exact hcnt

/-- TX_ACK sets the flags and ends the send; a new request and the first bit find them cleared. -/
theorem Took.resultFlagsShape (h : Took s i t) (hflags : s.ResultFlagsShape) : t.ResultFlagsShape := by
  cases h with
  | txAck => exact ⟨fun _ => rfl, fun _ => ⟨nofun, nofun⟩⟩
  | begin | reset | write | rts => exact ⟨nofun, nofun⟩
  | flush _ _ _ clears =>
    cases clears
    · exact hflags
    · exact ⟨nofun, nofun⟩
  | txFirst _ _ _ hp => exact ⟨hflags.1, fun hd => absurd hp (not_or.2 (hflags.2 hd))⟩
  | txData _ _ _ _ hp => exact ⟨hflags.1, fun hd => absurd hp (hflags.2 hd).2⟩
  | suspend | resume | rxStart | rxMalformed | rxDropped | rxStored | writeTimeout =>
    exact ⟨hflags.1, fun _ => ⟨nofun, nofun⟩⟩
  | _ => exact hflags

/-- DATA is released where a send ends: TX_ACK finds the stop bit on it, and WRITE_TIMEOUT releases it. -/
theorem Took.driversShape (h : Took s i t) (hdrv : s.DriversShape) (hhold : s.HoldShape) (hreset : s.ResetShape)
    (hsend : s.SendShape) : t.DriversShape := by
  have hlow (hc : s.hclk = false) : s.hclk ≠ true := by simp [hc]
  have hreleased (hc : s.hclk = false) (hp : s.phase ≠ .rts ∧ s.phase ≠ .sending) : s.hdat ≠ true := by
    intro hd
    rcases hdrv.1 hd with h | h | h
    · exact hp.1 h
    · exact hp.2 h
    · exact hlow hc (hreset h).2.1
  cases h with
  | begin | resetDone | writeTimeout => exact ⟨nofun, nofun⟩
  | reset => exact ⟨fun _ => .inr (.inr rfl), fun _ => .inr (.inr (.inr rfl))⟩
  | write => exact ⟨fun _ => .inl rfl, fun _ => .inr (.inr (.inl rfl))⟩
  | rts => exact ⟨fun _ => .inl rfl, fun _ => .inr (.inl rfl)⟩
  | suspend _ hq hp => exact ⟨fun hd => absurd (hdrv.1 hd) (by simp [hp, hq]), fun _ => .inl rfl⟩
  | resume _ hq hp => exact ⟨fun hd => absurd (hdrv.1 hd) (by simp [hp, hq]), nofun⟩
  | holdDoneRts hq => exact ⟨fun _ => .inl (hhold (.inl hq)).1, nofun⟩
  | holdDoneWrite hq => exact ⟨fun _ => .inl (hhold (.inr hq)).1, nofun⟩
  | writeDone hq => exact ⟨by simpa [hq] using hdrv.1, by simpa [hq] using hdrv.2⟩
  | rxStart _ _ hc hp | rxMalformed _ _ hc hp | rxDropped _ _ _ _ hc hp | rxStored _ _ hc hp =>
    exact ⟨fun hd => absurd hd (hreleased hc (by simp [hp])), fun h => absurd h (hlow hc)⟩
  | txFirst _ _ hc | txData _ _ _ hc => exact ⟨fun _ => .inr (.inl rfl), fun h => absurd h (hlow hc)⟩
  | txParity _ _ hc hp | txStop _ _ hc hp => exact ⟨fun _ => .inr (.inl hp), fun h => absurd h (hlow hc)⟩
  | txAck _ _ hc hp hn =>
    have hdat : s.hdat = false := by
      rw [(hsend.2 hp).1, hn]
      exact congrArg Bool.not (getLsbD_txImage_stop s.txByte)
    exact ⟨fun hd => absurd (hdat.symm.trans hd) nofun, fun h => absurd h (hlow hc)⟩
  | _ => exact hdrv

/-- The counters are loaded with their bounds and only fall, in the hold of a WRITE both by one. -/
theorem Took.countersBounded (h : Took s i t) (hctr : s.CountersBounded) (hok : s.params.Ok) : t.CountersBounded := by
  obtain ⟨hbound, hwd, hahead⟩ := hctr
  obtain ⟨-, -, -, hlt, -⟩ := hok
  cases h with
  | write => exact ⟨.inl le_rfl, le_rfl, fun _ => rfl⟩
  | rts => exact ⟨.inl le_rfl, hwd, nofun⟩
  | reset => exact ⟨.inr le_rfl, hwd, nofun⟩
  | holdDoneRts | holdDoneWrite | resetDone | writeDone | writeTimeout => exact ⟨hbound, hwd, nofun⟩
  | tick q hu =>
    rw [State.countDown_eq]
    refine ⟨?_, ?_, fun hq => ?_⟩
    · simp only; split_ifs <;> omega
    · simp only; split_ifs <;> omega
    · have hq : s.seq = .writeHold := hq
      have hne : s.holdCnt ≠ 0 := fun h0 =>
        Bool.false_ne_true (hu.symm.trans (s.urgentEnabled_iff.2 (.inl ⟨.inr (.inl hq), h0⟩)))
      have hsum := hahead hq
      have hpos : 0 < s.wdCnt := by omega
      simp only [hq, hpos, true_or, or_true, and_self, if_true]
      omega
  | _ => exact ⟨hbound, hwd, hahead⟩

/-- While sending, the bit just put on DATA is the next bit of the frame image, and TXPAR takes in a data bit. -/
theorem Took.sendShape (h : Took s i t) (hsend : s.SendShape) (hpos : s.PositionsMatchPhase) (hhold : s.HoldShape)
    (hreset : s.ResetShape) : t.SendShape := by
  cases h with
  | txFirst _ _ _ hp hn =>
    have hp : s.phase = .rts := hp.resolve_right fun hp => hpos.2.1 hp hn
    refine ⟨nofun, fun _ => ⟨?_, ?_⟩⟩
    · exact congrArg Bool.not (getLsbD_txImage_data s.txByte (k := 0) (by omega)).symm
    · simp [hsend.1 hp, parityOfLow]
  | txData _ p _ _ hp hn _ hp7 =>
    obtain ⟨-, hpar⟩ := hsend.2 hp
    have hval : (p + 1).val = p.val + 1 := val_add_one_of_lt (by omega)
    refine ⟨nofun, fun _ => ⟨?_, ?_⟩⟩
    · simp only [hval]
      rw [getLsbD_txImage_data _ (by omega)]
    · simp only [hval]
      rw [hpar, hn, Nat.min_eq_left (by omega), Nat.min_eq_left (by omega), parityOfLow]
  | txParity _ _ _ hp hn =>
    obtain ⟨-, hpar⟩ := hsend.2 hp
    have hpar8 : s.txPar = parityOfLow s.txByte 8 := by rw [hpar, hn]; rfl
    refine ⟨fun h => absurd (hp.symm.trans h) nofun, fun _ => ⟨?_, hpar8⟩⟩
    have hbit := getLsbD_txImage_parity s.txByte
    rw [oddParityBit, ← hpar8] at hbit
    exact (congrArg Bool.not hbit).trans (Bool.not_not _) |>.symm
  | txStop _ _ _ hp hn =>
    obtain ⟨-, hpar⟩ := hsend.2 hp
    refine ⟨fun h => absurd (hp.symm.trans h) nofun, fun _ => ⟨?_, ?_⟩⟩
    · exact congrArg Bool.not (getLsbD_txImage_stop s.txByte).symm
    · exact hpar.trans (by rw [hn]; rfl)
  | write | rts => exact ⟨fun _ => rfl, nofun⟩
  | flush _ _ _ clears _ hclears =>
    cases clears
    · exact hsend
    · exact ⟨fun hp => absurd hp (hclears rfl).1, fun hp => absurd hp (hclears rfl).2⟩
  | holdDoneRts hq => exact ⟨hsend.1, fun hp => absurd ((hhold (.inl hq)).1.symm.trans hp) nofun⟩
  | holdDoneWrite hq => exact ⟨hsend.1, fun hp => absurd ((hhold (.inr hq)).1.symm.trans hp) nofun⟩
  | resetDone hq => exact ⟨hsend.1, fun hp => absurd ((hreset hq).1.symm.trans hp) nofun⟩
  | begin | reset | suspend | resume | rxStart | rxMalformed | rxDropped | rxStored | txAck | writeTimeout =>
    exact ⟨nofun, nofun⟩
  | _ => exact hsend

/-- An operation that is taken keeps the invariants of R34 and R46, each by the ones it leans on. -/
theorem Took.inv (h : Took s i t) (hinv : s.Inv) : t.Inv := by
  obtain ⟨hok, hr, hpos, hhold, hwait, hsuspend, hreset, hpend, hcnt, hflags, hdrv, hctr, hsend⟩ := hinv
  exact ⟨h.params_eq ▸ hok, h.indicesInRange hr, h.positionsMatchPhase hpos hwait, h.holdShape hhold hdrv,
    h.waitShape hwait hhold, h.suspendShape hsuspend, h.resetShape hreset, h.pendingShape hpend hreset,
    h.holdCounterShape hcnt, h.resultFlagsShape hflags, h.driversShape hdrv hhold hreset hsend,
    h.countersBounded hctr hok, h.sendShape hsend hpos hhold hreset⟩

end Kept

theorem State.atPowerOn_inv {p : Params} (hp : p.Ok) (epoch : Nat) (agenda : List Turn) (cmds : List CmdWord) :
    (State.atPowerOn p epoch agenda cmds).Inv := by
  have hslots : 0 < p.bufSlots := Nat.lt_of_lt_of_le Nat.two_pos hp.1
  refine ⟨hp, ⟨hslots, hslots⟩, ⟨?_, ?_⟩, ?_, ?_, ?_, ?_, ?_, ?_, ⟨?_, ?_⟩, ⟨?_, ?_⟩, ⟨?_, ?_, ?_⟩, ?_, ?_⟩ <;>
    simp [State.atPowerOn]

/-- Settles O49: power-on meets the invariants and every operation that is taken keeps them (`Took.inv`). -/
theorem everyStepKeepsTheInvariants : Obligations.EveryStepKeepsTheInvariants := fun _ _ =>
  step_keeps (P := State.Inv) (fun hu hs => by rw [hu.eq]; exact hs) (fun hs => hs)
    (fun hs => State.atPowerOn_inv hs.1 _ _ _) Took.inv

/-! ### The frame being received -/

/-- `X[k] <- d` on a register that holds `k` bits makes it hold `k + 1`. -/
theorem toNat_setBit_lt {x : Frame} {k : Nat} (hk : k < 11) (hx : x.toNat < 2 ^ k) (d : Bool) :
    (setBit x k d).toNat < 2 ^ (k + 1) := by
  refine Nat.lt_pow_two_of_testBit _ fun j hj => ?_
  rw [BitVec.testBit_toNat]
  by_cases h11 : j < 11
  · rw [getLsbD_setBit x hk h11, if_neg (by omega), ← BitVec.testBit_toNat]
    exact Nat.testBit_lt_two_pow (hx.trans_le (Nat.pow_le_pow_right Nat.two_pos (by omega)))
  · exact BitVec.getLsbD_of_ge _ _ (by omega)

/-- Writing above position `n` leaves the parity up to `n` alone. -/
theorem frameParity_setBit_of_lt (x : Frame) {n k : Nat} (hn : n < k) (hk : k < 11) (d : Bool) :
    frameParity (setBit x k d) n = frameParity x n := by
  induction n with
  | zero => rfl
  | succ n ih => rw [frameParity, frameParity, ih (by omega), getLsbD_setBit x hk (by omega), if_neg (by omega)]

/-- Sampling the bit at position `k` adds it to the parity of those below (R105, R106). -/
theorem frameParity_setBit (x : Frame) {k : Nat} (h1 : 1 ≤ k) (hk : k < 11) (d : Bool) :
    frameParity (setBit x k d) k = (frameParity x (k - 1) ^^ d) := by
  obtain ⟨n, rfl⟩ := Nat.exists_eq_add_of_le' h1
  rw [frameParity, frameParity_setBit_of_lt x (by omega) hk, getLsbD_setBit x hk hk, if_pos rfl, Nat.add_sub_cancel]

/-- The three facts about RXSHIFT and RXPAR that sampling one more bit keeps, at position `k` of a frame. -/
theorem receive_setBit {x : Frame} {par : Bool} {k : Nat} (h1 : 1 ≤ k) (hk : k < 11) (d : Bool)
    (hx : x.toNat < 2 ^ k) (hstart : x.getLsbD 0 = false) (hpar : par = frameParity x (k - 1)) :
    (setBit x k d).toNat < 2 ^ (k + 1) ∧ (setBit x k d).getLsbD 0 = false ∧
      (par ^^ d) = frameParity (setBit x k d) k := by
  refine ⟨toNat_setBit_lt hk hx d, ?_, ?_⟩
  · rw [getLsbD_setBit x hk (by omega), if_neg (by omega), hstart]
  · rw [frameParity_setBit x h1 hk, hpar]

/-- RX_START begins an empty frame, and RX_DATA and RX_PARITY sample one more bit into it. -/
theorem Took.receiveShape {s t : State} {i : Instr} (h : Took s i t) (hrx : s.ReceiveShape) : t.ReceiveShape := by
  cases h with
  | rxStart => exact fun _ => ⟨Nat.two_pos, BitVec.getLsbD_zero, rfl, fun h => absurd h (by simp)⟩
  | rxData _ k d _ _ hp hn h1 h8 =>
    obtain ⟨hx, hstart, hpar, -⟩ := hrx hp
    rw [hn] at hx hpar
    have hval : (k + 1).val = k.val + 1 := val_add_one_of_lt (by omega)
    obtain ⟨hx, hstart, hpar⟩ := receive_setBit h1 k.isLt d hx hstart hpar
    intro _
    simp only [hval, Nat.add_sub_cancel]
    exact ⟨hx, hstart, hpar, fun h10 => by omega⟩
  | rxParity _ d _ _ _ hp hn =>
    obtain ⟨hx, hstart, hpar, -⟩ := hrx hp
    rw [hn] at hx hpar
    obtain ⟨hx, hstart, hpar⟩ := receive_setBit (k := 9) (by omega) (by omega) d hx hstart hpar
    exact fun _ => ⟨hx, hstart, hpar, fun _ => rfl⟩
  | begin | reset | write | rts | suspend | resume | rxMalformed | rxDropped | rxStored | txFirst | txData | txAck
  | writeTimeout => exact nofun
  | _ => exact hrx

theorem State.powerOn_receiveShape (s : State) : s.powerOn.ReceiveShape := nofun

/-- Settles O50: only RX_START, RX_DATA and RX_PARITY end in PHASE = RECEIVING with other receive registers. -/
theorem everyStepKeepsTheReceivedFrame : Obligations.EveryStepKeepsTheReceivedFrame := fun _ _ _ =>
  step_keeps (P := State.ReceiveShape) (fun hu hs => by rw [hu.eq]; exact hs) id
    (fun {s} _ => s.powerOn_receiveShape) Took.receiveShape

/-! ### The buffer memory -/

theorem Took.memoryOk {s t : State} {i : Instr} (h : Took s i t) (hmem : s.MemoryOk) : t.MemoryOk := by
  obtain ⟨hbuf, hpe, hkeys⟩ := hmem
  cases h with
  | rxStored => exact ⟨Memory.wf_store _ _ _ hbuf, Memory.wf_store _ _ _ hpe, Memory.keys_store _ _ _ _ _ hkeys⟩
  | _ => exact ⟨hbuf, hpe, hkeys⟩

theorem State.powerOn_memoryOk (s : State) : s.powerOn.MemoryOk := ⟨rfl, rfl, rfl⟩

/-- Settles O51: only PUSH writes the memory, and it writes both parts at one slot. -/
theorem everyStepKeepsTheMemoryCanonical : Obligations.EveryStepKeepsTheMemoryCanonical := fun _ _ =>
  step_keeps (P := State.MemoryOk) (fun hu hs => by rw [hu.eq]; exact hs) id (fun {s} _ => s.powerOn_memoryOk)
    Took.memoryOk

/-! ### Stored slots -/

theorem State.storedSlotsWritten_of_empty {s : State} (h : s.head = s.tail) : s.StoredSlotsWritten := by
  intro j hj
  simp [State.count, h] at hj

/-- Without its first slot, the stored run is still written. -/
theorem State.storedSlotsWritten_advanceHead {s : State} (hr : s.IndicesInRange) (hne : s.head ≠ s.tail)
    (hw : s.StoredSlotsWritten) : s.advanceHead.StoredSlotsWritten := by
  intro j hj
  have hrun := hw (j + 1) (by rw [State.count_advanceHead hr hne]; omega)
  have hidx : s.advanceHead.runIndex j = (s.head + (j + 1)) % s.params.bufSlots := s.runIndex_advanceHead j
  rw [State.runIndex] at hidx
  rwa [hidx]

/-- A store keeps every written slot written, and writes its own. -/
theorem isSome_load_store {α : Type} (m : Memory α) (a c : Nat) (v : α)
    (h : c ≠ a → (Memory.load m c).isSome = true) : (Memory.load (Memory.store m a v) c).isSome = true := by
  rw [Memory.load_store]
  split_ifs with hca
  · rfl
  · exact h hca

/-- With the slot at TAIL written and appended, the stored run is still written. -/
theorem State.storedSlotsWritten_of_stored {s t : State} {pe : Bool} {b : Byte} (hr : s.IndicesInRange)
    (hfree : s.nextIndex s.tail ≠ s.head) (hw : s.StoredSlotsWritten) (hparams : t.params = s.params)
    (hhead : t.head = s.head) (htail : t.tail = s.nextIndex s.tail) (hbuf : t.buf = Memory.store s.buf s.tail b)
    (hpe : t.bufPe = Memory.store s.bufPe s.tail pe) : t.StoredSlotsWritten := by
  intro j hj
  rw [State.count_of_tail_advanced hr hfree hparams hhead htail] at hj
  rw [hhead, hparams, hbuf, hpe]
  have hold (hne : s.runIndex j ≠ s.tail) : j < s.count := by
    refine lt_of_le_of_ne (by omega) fun heq => hne ?_
    rw [heq, State.runIndex_count hr]
  exact ⟨isSome_load_store _ _ _ _ fun hne => (hw j (hold hne)).1,
    isSome_load_store _ _ _ _ fun hne => (hw j (hold hne)).2⟩

theorem Took.storedSlotsWritten {s t : State} {i : Instr} (h : Took s i t) (hw : s.StoredSlotsWritten) :
    t.StoredSlotsWritten := by
  cases h with
  | begin | reset => exact State.storedSlotsWritten_of_empty rfl
  | flush _ _ rx =>
    cases rx
    · exact hw
    · exact State.storedSlotsWritten_of_empty rfl
  | readOldest _ _ hh ht hne => exact State.storedSlotsWritten_advanceHead ⟨hh, ht⟩ hne hw
  | rxStored _ _ _ _ _ _ hh ht hfree =>
    exact State.storedSlotsWritten_of_stored ⟨hh, ht⟩ hfree hw rfl rfl rfl rfl rfl
  | _ => exact hw

/-- Settles O52: READ drops the first slot of the run, and PUSH appends the slot it writes. -/
theorem everyStepKeepsStoredSlotsWritten : Obligations.EveryStepKeepsStoredSlotsWritten := fun _ _ _ =>
  step_keeps (P := State.StoredSlotsWritten) (fun hu hs => by rw [hu.eq]; exact hs) id
    (fun _ => State.storedSlotsWritten_of_empty rfl) Took.storedSlotsWritten

/-! ### Power-on -/

theorem State.atPowerOn_meets {p : Params} (hp : p.Ok) (epoch : Nat) (agenda : List Turn) (cmds : List CmdWord) :
    let s := State.atPowerOn p epoch agenda cmds
    s.Inv ∧ s.ReceiveShape ∧ s.MemoryOk ∧ s.StoredSlotsWritten :=
  ⟨State.atPowerOn_inv hp epoch agenda cmds, nofun, ⟨rfl, rfl, rfl⟩, State.storedSlotsWritten_of_empty rfl⟩

theorem Params.default_ok : Params.default.Ok := by decide

/-- Settles O48: `State.reset` is the power-on state of the default parameters, which are in range. -/
theorem invariantsHoldAtReset : Obligations.InvariantsHoldAtReset :=
  ⟨fun _ epoch agenda cmds hp => State.atPowerOn_meets hp epoch agenda cmds, ⟨_, Params.default_ok, rfl⟩,
    State.atPowerOn_meets Params.default_ok 0 [] []⟩

/-- Settles O15: each value is the power-on column's. -/
theorem resetStateHasPowerOnValues : Obligations.ResetStateHasPowerOnValues := by
  refine ⟨⟨_, rfl⟩, fun p epoch agenda cmds => ?_⟩
  simp [State.atPowerOn]

/-- Settles O59: the step is `step_of_powerOn`, and the field lemmas of `State.powerOn` give the inputs. -/
theorem powerOnLeavesTheInputsAlone : Obligations.PowerOnLeavesTheInputsAlone :=
  fun _ _ h => ⟨_, step_of_powerOn h, by simp⟩

end Sys2Proof.Machine
end

section
/-! PROOFS. What operations write and what they leave alone: PHASE (R207), the registers of each context (R205), TXBYTE
during a send (R241), the wait state (R212), and the outputs of a step (R42, R89, R211). -/

namespace Sys2Proof.Machine

/-! ### The outputs -/

/-- The label of an operation that is taken and answers, by its response (log entry 6). -/
theorem Took.label_of_response {s t : State} {i : Instr} {r : Response} (h : Took s i t) (hr : t.rsp = some r) :
    t.ev = if i = .writeDone then none else r.status.label := by
  cases h with
  | busy _ _ _ hc | reserved _ _ hc =>
    cases hr
    rw [if_neg (by rintro rfl; cases hc)]
    rfl
  | writeDone => rfl
  | begin | available | readEmpty | readOldest | flush | suspend | suspended | resume | resumed | holdDoneRts | resetDone
  | writeTimeout =>
    cases hr
    rfl
  | _ => cases hr

/-- Settles O39: an operation that waits gives no response, and one that is taken is `Took.label_of_response`. -/
theorem refusedCommandsCarryTheirLabel : Obligations.RefusedCommandsCarryTheirLabel := by
  intro i s t r hx hr
  obtain ⟨-, rfl⟩ | ht := exec_next hx
  · cases hr
  · exact ht.label_of_response hr

/-- The state with other outputs of the step before. -/
def State.withOutputs (s : State) (r : Option Response) (l : Option Label) : State := { s with rsp := r, ev := l }

/-- What fetch hands on, with other outputs in the state that is still to run. -/
def Fetched.withOutputs (r : Option Response) (l : Option Label) : Fetched → Fetched
  | .run w u => .run w (u.withOutputs r l)
  | .still t => .still t

section Outputs

variable (s : State) (r : Option Response) (l : Option Label)

theorem State.offerCommand_withOutputs :
    (s.withOutputs r l).offerCommand = s.offerCommand.withOutputs r l := by
  cases hc : s.cmds with
  | nil =>
    rw [State.offerCommand_nil hc]
    exact State.offerCommand_nil (s := s.withOutputs r l) hc
  | cons w ws =>
    rw [State.offerCommand_cons hc, apply_ite (Fetched.withOutputs r l)]
    exact State.offerCommand_cons (s := s.withOutputs r l) hc

theorem State.offerDefault_withOutputs :
    (s.withOutputs r l).offerDefault = s.offerDefault.withOutputs r l := by
  cases hc : s.cmds with
  | nil =>
    rw [State.offerDefault_nil hc]
    exact State.offerDefault_nil (s := s.withOutputs r l) hc
  | cons w ws =>
    rw [State.offerDefault_cons hc, apply_ite (Fetched.withOutputs r l), apply_ite (Fetched.withOutputs r l)]
    exact State.offerDefault_cons (s := s.withOutputs r l) hc

/-- Fetch looks at no output, and clears the outputs of a state that it leaves still. -/
theorem State.fetch_withOutputs : (s.withOutputs r l).fetch = s.fetch.withOutputs r l := by
  cases ha : s.agenda with
  | nil =>
    rw [State.fetch_nil ha, ← State.offerDefault_withOutputs]
    exact State.fetch_nil (s := s.withOutputs r l) ha
  | cons x rest =>
    cases x with
    | edge v =>
      rw [State.fetch_edge ha, State.offerEdge, apply_ite (Fetched.withOutputs r l)]
      exact State.fetch_edge (s := s.withOutputs r l) ha
    | sample devClk devDat =>
      rw [State.fetch_sample ha, State.offerSample, apply_ite (Fetched.withOutputs r l)]
      exact State.fetch_sample (s := s.withOutputs r l) ha
    | host =>
      rw [State.fetch_host ha, ← State.offerCommand_withOutputs]
      exact State.fetch_host (s := s.withOutputs r l) ha
    | urgent =>
      rw [State.fetch_urgent ha, State.offerUrgent, apply_ite (Fetched.withOutputs r l)]
      exact State.fetch_urgent (s := s.withOutputs r l) ha
    | tick =>
      rw [State.fetch_tick ha, apply_ite (Fetched.withOutputs r l)]
      exact State.fetch_tick (s := s.withOutputs r l) ha
    | powerOn =>
      rw [State.fetch_powerOn ha]
      exact State.fetch_powerOn (s := s.withOutputs r l) ha

/-- Every operation starts by clearing the outputs. -/
theorem exec_withOutputs (i : Instr) : exec i (s.withOutputs r l) = exec i s := by
  cases i <;> rfl

end Outputs

/-- Settles O58: fetch hands on the same with other outputs, and exec clears them. -/
theorem outputsChangeNoBehaviour : Obligations.OutputsChangeNoBehaviour := by
  intro s r l
  have hn : (s.withOutputs r l).faulted = s.faulted := rfl
  change step (s.withOutputs r l) = step s
  rw [step, step, hn, State.fetch_withOutputs]
  cases s.fetch with
  | still t => rfl
  | run w u =>
    simp only [Fetched.withOutputs, exec_withOutputs]

/-! ### PHASE -/

/-- Settles O54: each case of `Took` that writes PHASE is a row of the table; the invariants exclude a first edge of a send in
PHASE = SENDING and a WRITE_TIMEOUT outside a send. -/
theorem phaseChangesAreInTheTable : Obligations.PhaseChangesAreInTheTable := by
  intro i s t hinv hx hne
  obtain ⟨-, -, hpos, -, hwait, -⟩ := hinv
  obtain ⟨-, rfl⟩ | ht := exec_next hx
  · exact absurd rfl hne
  cases ht with
  | rxStart v _ _ hp hd => exact .inl ⟨hp, rfl, rfl, v, rfl, s.sampled_eq v ▸ hd⟩
  | rxDropped v _ _ _ _ hp hn | rxStored v _ _ hp hn => exact .inr (.inl ⟨hp, hn, rfl, v, rfl⟩)
  | rts a _ hp => exact .inr (.inr (.inl ⟨hp, rfl, rfl, a, .inl rfl⟩))
  | write a _ hp => exact .inr (.inr (.inl ⟨hp, rfl, rfl, a, .inr rfl⟩))
  | txFirst v _ _ hp hn =>
    have hp : s.phase = .rts := hp.resolve_right fun hp => hpos.2.1 hp hn
    exact .inr (.inr (.inr (.inl ⟨hp, rfl, rfl, v, rfl⟩)))
  | txAck v _ _ hp hn => exact .inr (.inr (.inr (.inr (.inl ⟨hp, hn, rfl, rfl, v, rfl⟩))))
  | writeTimeout hq hd => exact .inr (.inr (.inr (.inr (.inr (.inl ⟨hwait hq hd, rfl, rfl⟩)))))
  | suspend a _ hp => exact .inr (.inr (.inr (.inr (.inr (.inr (.inl ⟨hp, rfl, a, rfl⟩))))))
  | resume a _ hp => exact .inr (.inr (.inr (.inr (.inr (.inr (.inr (.inl ⟨hp, rfl, a, rfl⟩)))))))
  | begin a => exact .inr (.inr (.inr (.inr (.inr (.inr (.inr (.inr ⟨rfl, a, .inl rfl⟩)))))))
  | reset a => exact .inr (.inr (.inr (.inr (.inr (.inr (.inr (.inr ⟨rfl, a, .inr rfl⟩)))))))
  | rxMalformed _ _ _ hp | txData _ _ _ _ hp => exact absurd hp.symm hne
  | _ => exact absurd rfl hne

/-! ### Contexts -/

theorem Took.engine_frame {s t : State} {i : Instr} (h : Took s i t) (hc : contextOf i = .engine) :
    t.txByte = s.txByte ∧ t.head = s.head ∧ t.hclk = s.hclk ∧ t.ien = s.ien ∧ t.seq = s.seq ∧
      t.holdCnt = s.holdCnt ∧ t.wdCnt = s.wdCnt := by
  cases h with
  | rxStart | rxMalformed | rxData | rxParity | rxDropped | rxStored | txFirst | txData | txParity | txStop | txAck =>
    exact ⟨rfl, rfl, rfl, rfl, rfl, rfl, rfl⟩
  | busy _ _ _ hcmd | reserved _ _ hcmd => cases hcmd.symm.trans hc
  | _ => cases hc

theorem Took.other_frame {s t : State} {i : Instr} (h : Took s i t) (hc : contextOf i ≠ .engine) :
    t.buf = s.buf ∧ t.bufPe = s.bufPe ∧ (t.tail = s.tail ∨ t.tail = 0) ∧
      (t.rxShift = s.rxShift ∨ t.rxShift = 0) ∧ (t.rxPar = true → s.rxPar = true) ∧
      (t.rxPe = true → s.rxPe = true) ∧ (t.rxPos = s.rxPos ∨ t.rxPos = 0) ∧
      (t.txDone = true → s.txDone = true) ∧ (t.txNak = true → s.txNak = true) := by
  cases h with
  | begin | reset => exact ⟨rfl, rfl, .inr rfl, .inr rfl, nofun, nofun, .inr rfl, nofun, nofun⟩
  | write | rts => exact ⟨rfl, rfl, .inl rfl, .inl rfl, id, id, .inl rfl, nofun, nofun⟩
  | flush _ _ rx clears =>
    cases rx <;> cases clears <;> simp
  | rxData _ _ _ _ _ _ _ _ _ heng | txData _ _ _ _ _ _ _ _ heng => exact absurd heng hc
  | rxStart | rxMalformed | rxParity | rxDropped | rxStored | txFirst | txParity | txStop | txAck => exact absurd rfl hc
  | _ => exact ⟨rfl, rfl, .inl rfl, .inl rfl, id, id, .inl rfl, id, id⟩

theorem Took.time_frame {s t : State} {i : Instr} (h : Took s i t) (hc : contextOf i = .time) :
    t = { s with holdCnt := t.holdCnt, wdCnt := t.wdCnt, rsp := none, ev := none } := by
  cases h with
  | tick => rfl
  | busy _ _ _ hcmd | reserved _ _ hcmd => cases hcmd.symm.trans hc
  | rxData _ _ _ _ _ _ _ _ _ heng | txData _ _ _ _ _ _ _ _ heng => cases heng.symm.trans hc
  | _ => cases hc

theorem Took.inputs_frame {s t : State} {i : Instr} (h : Took s i t) :
    t.clkPrev = s.clkPrev ∧ t.params = s.params ∧ t.epoch = s.epoch ∧ t.agenda = s.agenda ∧ t.cmds = s.cmds := by
  cases h <;> exact ⟨rfl, rfl, rfl, rfl, rfl⟩

theorem Took.ien_of_ne {s t : State} {i : Instr} (h : Took s i t) (hne : t.ien ≠ s.ien) :
    t.ien = true ∧ ∃ a, i = .hostBegin a := by
  cases h with
  | begin a => exact ⟨rfl, a, rfl⟩
  | _ => exact absurd rfl hne

/-- Settles O55: what is not taken changes outputs only, and what is taken has the frames above. -/
theorem contextsWriteTheirOwnRegisters : Obligations.ContextsWriteTheirOwnRegisters := by
  intro i s t hx
  obtain ⟨-, rfl⟩ | ht := exec_next hx
  · exact ⟨fun _ => ⟨rfl, rfl, rfl, rfl, rfl, rfl, rfl⟩,
      fun _ => ⟨rfl, rfl, .inl rfl, .inl rfl, id, id, .inl rfl, id, id⟩, fun _ => rfl, ⟨rfl, rfl, rfl, rfl, rfl⟩,
      fun hne => absurd rfl hne⟩
  · exact ⟨ht.engine_frame, ht.other_frame, ht.time_frame, ht.inputs_frame, ht.ien_of_ne⟩

/-! ### TXBYTE -/

theorem Took.txByte_of_send {s t : State} {i : Instr} (h : Took s i t) (hp : s.phase = .rts ∨ s.phase = .sending) :
    t.txByte = s.txByte := by
  cases h with
  | write _ _ hidle => rcases hp with hp | hp <;> cases hidle.symm.trans hp
  | flush _ _ _ clears _ hclears =>
    cases clears
    · rfl
    · obtain ⟨hrts, hsending⟩ := hclears rfl
      exact absurd hp (not_or.2 ⟨hrts, hsending⟩)
  | _ => rfl

/-- Settles O56: only WRITE and FLUSH write TXBYTE, the one in PHASE = IDLE and the other outside a send. -/
theorem transmitRegisterIsSafeInFlight : Obligations.TransmitRegisterIsSafeInFlight := by
  intro s t hp hnot h
  obtain ⟨u, hu, rfl⟩ | ⟨rest, ha, -⟩ | ⟨u, i, hu, hx⟩ := step_next h
  · rw [State.quiet_txByte, hu.eq]
  · exact absurd ha (hnot rest)
  · have hup : u.phase = s.phase := by rw [hu.eq]
    have hub : u.txByte = s.txByte := by rw [hu.eq]
    obtain ⟨-, rfl⟩ | ht := exec_next hx
    · exact hub
    · exact (ht.txByte_of_send (hup ▸ hp)).trans hub

/-! ### The wait state -/

/-- What step does when it answers: what fetch leaves still, or the decoded operation. -/
theorem fetch_of_step_next {s t : State} (h : step s = .next t) :
    s.fetch = .still t ∨ ∃ w u i, s.fetch = .run w u ∧ decode w = .ok i ∧ exec i u = .next t := by
  unfold step at h
  split at h
  · cases h
  · split at h
    · cases h
      exact .inl ‹_›
    · split at h
      · exact .inr ⟨_, _, _, ‹_›, ‹_›, h⟩
      · cases h

/-- With CLOCK held low no edge and no sample reaches the engine, so what is run is run on the block as it was. -/
theorem State.fetch_run_of_hclk {s u : State} {w : OpWord} (hc : s.hclk = true) (h : s.fetch = .run w u) :
    u = { s with agenda := u.agenda, cmds := u.cmds } := by
  cases ha : s.agenda with
  | nil =>
    rw [State.fetch_nil ha, State.offerDefault] at h
    split at h
    · cases h
      rfl
    · split at h
      · cases h
        rfl
      · split at h <;> cases h <;> rfl
  | cons x rest =>
    cases x with
    | edge v =>
      have hstill := (State.fetch_edge ha).trans (State.offerEdge_of_not_qualifies v (.inr hc))
      cases hstill.symm.trans h
    | sample devClk devDat =>
      have hstill := (State.fetch_sample ha).trans (State.offerSample_of_no_fall devClk devDat (.inr (.inl hc)))
      cases hstill.symm.trans h
    | host =>
      rw [State.fetch_host ha, State.offerCommand] at h
      split at h
      · cases h
      · split at h <;> cases h
        rfl
    | urgent =>
      rw [State.fetch_urgent ha, State.offerUrgent] at h
      split at h <;> cases h
      rfl
    | tick =>
      rw [State.fetch_tick ha] at h
      split at h <;> cases h <;> rfl
    | powerOn => cases (State.fetch_powerOn ha).symm.trans h

/-- An operation taken in the wait state keeps it, with the lines, the positions and the slots, or is RESUME, BEGIN or
RESET. -/
theorem Took.of_suspended {s t : State} {i : Instr} (h : Took s i t) (hp : s.phase = .suspended)
    (hsuspend : s.SuspendShape) :
    (t.phase = .suspended ∧ t.hclk = s.hclk ∧ t.hdat = s.hdat ∧ t.rxPos = s.rxPos ∧ t.txPos = s.txPos ∧
      t.buf = s.buf ∧ t.bufPe = s.bufPe) ∨
    (t.phase = .idle ∧ ∃ a, i = .hostResume a ∨ i = .hostBegin a ∨ i = .hostReset a) := by
  obtain ⟨hclk, hq⟩ := hsuspend hp
  cases h with
  | resume a => exact .inr ⟨rfl, a, .inl rfl⟩
  | begin a => exact .inr ⟨rfl, a, .inr (.inl rfl)⟩
  | reset a => exact .inr ⟨rfl, a, .inr (.inr rfl)⟩
  | write _ _ hidle | rts _ _ hidle | suspend _ _ hidle => cases hidle.symm.trans hp
  | rxStart _ _ hc | rxMalformed _ _ hc | rxData _ _ _ _ hc | rxParity _ _ _ _ hc | rxDropped _ _ _ _ hc
  | rxStored _ _ hc | txFirst _ _ hc | txData _ _ _ hc | txParity _ _ hc | txStop _ _ hc | txAck _ _ hc =>
    cases hc.symm.trans hclk
  | holdDoneRts hw | holdDoneWrite hw | resetDone hw | writeDone hw | writeTimeout hw => cases hw.symm.trans hq
  | _ => exact .inl ⟨hp, rfl, rfl, rfl, rfl, rfl, rfl⟩

/-- Settles O57: what runs in the wait state runs on the same block (`State.fetch_run_of_hclk`), and keeps that state or
is one of the three commands (`Took.of_suspended`). -/
theorem onlyThreeCommandsWakeTheBlock : Obligations.OnlyThreeCommandsWakeTheBlock := by
  intro s t hinv hp hnot h
  obtain ⟨-, -, hpos, -, -, hsuspend, -⟩ := hinv
  have hrx : s.rxPos = 0 := rxPos_eq_zero hpos (by simp [hp])
  have htx : s.txPos = 0 := txPos_eq_zero hpos (by simp [hp])
  have hclk : s.hclk = true := (hsuspend hp).1
  obtain hf | ⟨w, u, i, hf, -, hx⟩ := fetch_of_step_next h
  · obtain ⟨u, hu, rfl⟩ | ⟨rest, ha, -⟩ := State.fetch_still hf
    · rw [hu.eq]
      exact .inl ⟨hp, hclk, rfl, hrx, htx, rfl, rfl⟩
    · exact absurd ha (hnot rest)
  · have hu := State.fetch_run_of_hclk hclk hf
    obtain ⟨-, rfl⟩ | ht := exec_next hx
    · rw [hu]
      exact .inl ⟨hp, hclk, rfl, hrx, htx, rfl, rfl⟩
    · obtain ⟨-, -, -, hagenda, hcmds⟩ := ht.inputs_frame
      obtain ⟨hphase, hc, hd, hr, hx', hb, hpe⟩ | ⟨hidle, a, hi⟩ :=
        ht.of_suspended (by rw [hu]; exact hp) (by rw [hu]; exact hsuspend)
      · rw [hu] at hc hd hr hx' hb hpe
        exact .inl ⟨hphase, hc.trans hclk, hd, hr.trans hrx, hx'.trans htx, hb, hpe⟩
      · refine .inr ⟨hidle, u, a, by rw [hagenda, hcmds]; exact hu, ?_⟩
        rcases hi with rfl | rfl | rfl
        · exact .inl hx
        · exact .inr (.inl hx)
        · exact .inr (.inr hx)

end Sys2Proof.Machine
end

section
/-! PROOFS. Runs: the ticks of a hold (R161, R162, R166), a WRITE that no edge answers (R164), and RESET followed by
BEGIN (R223). -/

namespace Sys2Proof.Machine

/-! ### Ticks -/

/-- `s` after `n` ticks in which no urgent step was enabled, with `turns` still to come (R165). -/
def State.ticked (s : State) (n : Nat) (turns : List Turn) : State :=
  { s with
    holdCnt := if s.seq.holds then s.holdCnt - n else s.holdCnt,
    wdCnt := if s.seq.watches then s.wdCnt - n else s.wdCnt,
    agenda := turns, rsp := if n = 0 then s.rsp else none, ev := if n = 0 then s.ev else none }

theorem State.ticked_zero (s : State) : s.ticked 0 s.agenda = s := by
  simp [State.ticked]

/-- One more tick. -/
theorem State.countDown_ticked (s : State) (n : Nat) (turns rest : List Turn) :
    ({ s.ticked n turns with agenda := rest } : State).quiet.countDown = s.ticked (n + 1) rest := by
  cases hq : s.seq.holds <;> cases hw : s.seq.watches <;>
    simp [State.ticked, State.quiet, State.countDown, hq, hw, Nat.sub_sub] <;> omega

/-- For `n` ticks no urgent step is enabled: what counts down in this state of SEQ has that many ticks left. -/
structure State.TicksLeft (s : State) (n : Nat) : Prop where
  hold : s.seq.holds = true → n ≤ s.holdCnt
  wait : s.seq = .writeWait → s.txDone = false ∧ n ≤ s.wdCnt

theorem State.TicksLeft.mono {s : State} {m n : Nat} (h : s.TicksLeft n) (hm : m ≤ n) : s.TicksLeft m :=
  ⟨fun hq => hm.trans (h.hold hq), fun hq => (h.wait hq).imp_right hm.trans⟩

theorem State.TicksLeft.not_urgent {s : State} {n : Nat} (h : s.TicksLeft (n + 1)) (turns : List Turn) :
    (s.ticked n turns).urgentEnabled = false := by
  rw [Bool.eq_false_iff, ne_eq, State.urgentEnabled_iff]
  rintro (⟨hq, h0⟩ | ⟨hq, hend⟩)
  · have hholds : s.seq.holds = true := (Sequencer.holds_iff _).2 hq
    have hle := h.hold hholds
    have h0 : s.holdCnt - n = 0 := (if_pos hholds).symm.trans h0
    omega
  · have hq : s.seq = .writeWait := hq
    obtain ⟨hd, hle⟩ := h.wait hq
    have hwatches : s.seq.watches = true := (Sequencer.watches_iff _).2 (.inr hq)
    obtain hd' | h0 := hend
    · exact Bool.false_ne_true (hd.symm.trans hd')
    · have h0 : s.wdCnt - n = 0 := (if_pos hwatches).symm.trans h0
      omega

theorem tickTurns_succ (n : Nat) (rest : List Turn) : tickTurns (n + 1) ++ rest = tickTurns n ++ .tick :: rest := by
  rw [tickTurns, tickTurns, List.replicate_succ', List.append_assoc, List.singleton_append]

/-- A run over turns of time in which no urgent step becomes enabled. -/
theorem runFor_ticks {s : State} {n : Nat} {rest : List Turn} (hr : s.IndicesInRange) (hleft : s.TicksLeft n)
    (ha : s.agenda = tickTurns n ++ rest) : runFor n s = .next (s.ticked n rest) := by
  induction n generalizing rest with
  | zero =>
    have hzero := s.ticked_zero
    rw [ha] at hzero
    exact congrArg Host.Outcome.next hzero.symm
  | succ n ih =>
    have hrun := ih (hleft.mono (Nat.le_succ n)) (ha.trans (tickTurns_succ n rest))
    have hu := hleft.not_urgent (.tick :: rest)
    have hstep : step (s.ticked n (.tick :: rest)) = .next (s.ticked (n + 1) rest) := by
      rw [step_tick_of_not_urgent (s := s.ticked n (.tick :: rest)) hr rfl hu,
        ← s.countDown_ticked n (.tick :: rest) rest]
      exact exec_tick_of_not_urgent (s := { s.ticked n (.tick :: rest) with agenda := rest }) hu
    exact (runFor_add 1 hrun).trans (runFor_succ 0 hstep)

/-- A run over the first of them. -/
theorem runFor_ticks_of_le {s : State} {m n : Nat} {rest : List Turn} (hr : s.IndicesInRange) (hleft : s.TicksLeft m)
    (hm : m ≤ n) (ha : s.agenda = tickTurns n ++ rest) :
    runFor m s = .next (s.ticked m (tickTurns (n - m) ++ rest)) := by
  refine runFor_ticks hr hleft ?_
  rw [ha, ← List.append_assoc, tickTurns, tickTurns, tickTurns, List.replicate_append_replicate,
    Nat.add_sub_cancel' hm]

/-- A turn of the sequencer takes the urgent step. -/
theorem step_urgent {s : State} {rest : List Turn} (hr : s.IndicesInRange) (ha : s.agenda = .urgent :: rest)
    (hu : s.urgentEnabled = true) : step s = exec s.seqInstr { s with agenda := rest } :=
  step_of_run (State.not_faulted_of_inRange hr.1 hr.2) ((State.fetch_urgent ha).trans (if_pos hu)) s.decode_seqWord

theorem State.ticksLeft_of_holds {s : State} {n : Nat}
    (hq : s.seq = .rtsHold ∨ s.seq = .writeHold ∨ s.seq = .resetHold) (hn : n ≤ s.holdCnt) : s.TicksLeft n :=
  ⟨fun _ => hn, fun h => by simp [h] at hq⟩

/-- Settles O44: the ticks are counted by `runFor_ticks`, and the step after them is the one that SEQ names. -/
theorem holdLastsExactlyItsTicks : Obligations.HoldLastsExactlyItsTicks := by
  intro s rest hr hq ha
  have hholds : s.seq.holds = true := (Sequencer.holds_iff _).2 hq
  constructor
  · intro n h0 hn
    refine ⟨_, runFor_ticks_of_le hr (State.ticksLeft_of_holds hq hn) hn ha, rfl, rfl, rfl, if_neg h0.ne', ?_⟩
    have hcnt : (s.ticked n (tickTurns (s.holdCnt - n) ++ .urgent :: rest)).holdCnt = s.holdCnt - n := if_pos hholds
    omega
  · let u := s.ticked s.holdCnt (.urgent :: rest)
    have hrun : runFor s.holdCnt s = .next u := runFor_ticks hr (State.ticksLeft_of_holds hq le_rfl) ha
    have h0 : u.holdCnt = 0 := (if_pos hholds).trans (Nat.sub_self _)
    have hstep := step_urgent (s := u) hr rfl (u.urgentEnabled_iff.2 (.inl ⟨hq, h0⟩))
    have hlast {t : State} (ht : exec u.seqInstr { u with agenda := rest } = .next t) :
        runFor (s.holdCnt + 1) s = .next t := (runFor_add 1 hrun).trans (runFor_succ 0 (hstep.trans ht))
    obtain hq | hq | hq := hq
    · rw [State.seqInstr_of_rtsHold (s := u) hq h0] at hlast
      exact ⟨_, hlast (exec_holdDoneRts_of_over hq h0), rfl, rfl, fun _ => ⟨rfl, rfl, rfl⟩, by simp [hq], by simp [hq]⟩
    · rw [State.seqInstr_of_writeHold (s := u) hq h0] at hlast
      have hwd : u.wdCnt = s.wdCnt - s.holdCnt := if_pos ((Sequencer.watches_iff _).2 (.inl hq))
      exact ⟨_, hlast (exec_holdDoneWrite_of_over hq h0), rfl, rfl, by simp [hq], by simp [hq],
        fun _ => ⟨rfl, rfl, rfl, hwd⟩⟩
    · rw [State.seqInstr_of_resetHold (s := u) hq h0] at hlast
      exact ⟨_, hlast (exec_resetDone_of_over hq h0), rfl, rfl, by simp [hq], fun _ => ⟨rfl, rfl, rfl⟩, by simp [hq]⟩

/-! ### A WRITE without an answer -/

/-- `s` after the acceptance of WRITE `b`, with `turns` still to come (R154). -/
def State.writeAccepted (s : State) (b : Byte) (turns : List Turn) : State :=
  { (State.quiet { s with agenda := turns, cmds := [] }).requestToSend .writeHold with
    txByte := b, wdCnt := s.params.watchdogTicks }

theorem step_write {s : State} {b : Byte} {turns : List Turn} (hr : s.IndicesInRange) (hq : s.seq = .ready)
    (hp : s.phase = .idle) (ha : s.agenda = .host :: turns) (hc : s.cmds = [(0x3#4 ++ b : CmdWord)]) :
    step s = .next (s.writeAccepted b turns) :=
  (step_host_of_ready hr ha hc hq (decodeOfEncodeIsIdentity (.hostWrite b) rfl)).trans
    (exec_hostWrite_of_idle (s := { s with agenda := turns, cmds := [] }) b hq hp)

/-- `s` after the acceptance of WRITE `b`, the ticks of its hold and HOLD_DONE, with `turns` still to come (R161). -/
def State.writeWaiting (s : State) (b : Byte) (turns : List Turn) : State :=
  ((s.writeAccepted b turns).ticked s.params.holdTicks turns).quiet.startBit .writeWait

section Unanswered

variable {s : State} {b : Byte} {turns : List Turn} (hok : s.params.Ok) (hr : s.IndicesInRange) (hq : s.seq = .ready)
  (hp : s.phase = .idle) (ha : s.agenda = .host :: (tickTurns s.params.watchdogTicks ++ turns))
  (hc : s.cmds = [(0x3#4 ++ b : CmdWord)])
include hok hr hq hp ha hc

/-- The acceptance and the ticks of the hold. -/
theorem runFor_hold_of_write {m : Nat} (hm : m ≤ s.params.holdTicks) :
    runFor (m + 1) s = .next ((s.writeAccepted b (tickTurns s.params.watchdogTicks ++ turns)).ticked m
      (tickTurns (s.params.watchdogTicks - m) ++ turns)) := by
  obtain ⟨-, -, -, hlt, -⟩ := hok
  have hleft : (s.writeAccepted b (tickTurns s.params.watchdogTicks ++ turns)).TicksLeft m := ⟨fun _ => hm, nofun⟩
  exact (runFor_succ m (step_write hr hq hp ha hc)).trans (runFor_ticks_of_le hr hleft (by omega) rfl)

/-- HOLD_DONE comes before the next tick, which is left for later (R166). -/
theorem runFor_holdDone_of_write : runFor (s.params.holdTicks + 2) s =
    .next (s.writeWaiting b (tickTurns (s.params.watchdogTicks - s.params.holdTicks) ++ turns)) := by
  have hrun := runFor_hold_of_write hok hr hq hp ha hc le_rfl
  obtain ⟨-, -, -, hlt, -⟩ := hok
  obtain ⟨k, hk⟩ : ∃ k, s.params.watchdogTicks - s.params.holdTicks = k + 1 :=
    ⟨_, (Nat.sub_add_cancel (by omega)).symm⟩
  let u := (s.writeAccepted b (tickTurns s.params.watchdogTicks ++ turns)).ticked s.params.holdTicks
    (tickTurns (s.params.watchdogTicks - s.params.holdTicks) ++ turns)
  have h0 : u.holdCnt = 0 := Nat.sub_self s.params.holdTicks
  have hau : u.agenda = .tick :: (tickTurns k ++ turns) := congrArg (tickTurns · ++ turns) hk
  have hstep := step_tick_of_urgent (s := u) hr hau (u.urgentEnabled_iff.2 (.inl ⟨.inr (.inl rfl), h0⟩))
  rw [State.seqInstr_of_writeHold (s := u) rfl h0] at hstep
  exact (runFor_add 1 hrun).trans (runFor_succ 0 (hstep.trans (exec_holdDoneWrite_of_over rfl h0)))

/-- The ticks of the watchdog after the hold. -/
theorem runFor_wait_of_write {m : Nat} (hm : m ≤ s.params.watchdogTicks - s.params.holdTicks) :
    runFor (s.params.holdTicks + 2 + m) s =
      .next ((s.writeWaiting b (tickTurns (s.params.watchdogTicks - s.params.holdTicks) ++ turns)).ticked m
        (tickTurns (s.params.watchdogTicks - s.params.holdTicks - m) ++ turns)) := by
  refine (runFor_add m (runFor_holdDone_of_write hok hr hq hp ha hc)).trans (runFor_ticks_of_le hr ?_ hm rfl)
  exact ⟨nofun, fun _ => ⟨rfl, hm⟩⟩

end Unanswered

/-- Settles O45: the hold and the wait by their runs, and after all WATCHDOG_TICKS ticks WDCNT is 0. -/
theorem unansweredWriteTimesOutExactly : Obligations.UnansweredWriteTimesOutExactly := by
  intro s b rest hok hr hq hp ha hc
  have hlt : s.params.holdTicks < s.params.watchdogTicks := hok.2.2.2.1
  constructor
  · intro n h0 hn
    obtain hle | hlt : n ≤ s.params.holdTicks + 1 ∨ s.params.holdTicks + 1 < n := by omega
    · obtain ⟨m, rfl⟩ := Nat.exists_eq_add_of_le' h0
      exact ⟨_, runFor_hold_of_write hok hr hq hp ha hc (by omega), ite_self none, nofun⟩
    · obtain ⟨m, rfl⟩ := Nat.exists_eq_add_of_le hlt
      exact ⟨_, runFor_wait_of_write hok hr hq hp ha hc (by omega), ite_self none, nofun⟩
  · have hrun := runFor_wait_of_write hok hr hq hp ha hc le_rfl
    rw [Nat.sub_self] at hrun
    let u := (s.writeWaiting b (tickTurns (s.params.watchdogTicks - s.params.holdTicks) ++ .urgent :: rest)).ticked
      (s.params.watchdogTicks - s.params.holdTicks) (.urgent :: rest)
    have h0 : u.wdCnt = 0 := Nat.sub_self (s.params.watchdogTicks - s.params.holdTicks)
    have hstep := step_urgent (s := u) hr rfl (u.urgentEnabled_iff.2 (.inr ⟨rfl, .inr h0⟩))
    rw [State.seqInstr_of_wdCnt_zero (s := u) rfl rfl h0] at hstep
    have hend := (runFor_add 1 hrun).trans (runFor_succ 0 (hstep.trans
      (exec_writeTimeout_of_enabled ((State.timeoutEnabled_iff _).2 ⟨rfl, rfl, h0⟩))))
    have hlen : s.params.watchdogTicks + 3 =
        s.params.holdTicks + 2 + (s.params.watchdogTicks - s.params.holdTicks) + 1 := by omega
    rw [hlen]
    exact ⟨_, hend, rfl, rfl, rfl, rfl, rfl, rfl, rfl, rfl⟩

/-! ### RESET and BEGIN -/

/-- An edge from a state of the invariants: the block answers, and SEQ, HOLDCNT and the commands stay. -/
theorem step_edge_keeps {s : State} {v : Bool} {rest : List Turn} (hinv : s.Inv) (ha : s.agenda = .edge v :: rest) :
    ∃ t, step s = .next t ∧ t.Inv ∧ t.agenda = rest ∧ t.cmds = s.cmds ∧ t.seq = s.seq ∧ t.holdCnt = s.holdCnt := by
  obtain ⟨t, ht⟩ := nothingStopsTheBlock s hinv
  refine ⟨t, ht, everyStepKeepsTheInvariants s t hinv ht, ?_⟩
  obtain ⟨-, hr, hpos, -, -, hsuspend, -⟩ := hinv
  by_cases hqual : s.ien = true ∧ s.hclk = false
  · obtain ⟨hi, hc⟩ := hqual
    have hp : s.phase ≠ .suspended := fun hp => Bool.false_ne_true (hc.symm.trans (hsuspend hp).1)
    obtain ⟨i, hd⟩ := exists_decode_edgeKey v hpos hp
    rw [step_edge_of_qualifies hr ha hi hc hd] at ht
    obtain ⟨hengine, -, -, ⟨-, -, -, hagenda, hcmds⟩, -⟩ := contextsWriteTheirOwnRegisters i _ t ht
    obtain ⟨-, -, -, -, hseq, hcnt, -⟩ := hengine (contextOf_of_decode_edge hd)
    exact ⟨hagenda, hcmds, hseq, hcnt⟩
  · have hnot : s.ien = false ∨ s.hclk = true := by
      cases hi : s.ien <;> cases hc : s.hclk <;> simp_all
    rw [step_edge_of_not_qualifies hr ha hnot] at ht
    cases ht
    exact ⟨rfl, rfl, rfl, rfl⟩

/-- Edges from a state of the invariants. -/
theorem runFor_edges_keeps {levels : List Bool} {s : State} {rest : List Turn} (hinv : s.Inv)
    (ha : s.agenda = edgeTurns levels ++ rest) :
    ∃ t, runFor levels.length s = .next t ∧ t.Inv ∧ t.agenda = rest ∧ t.cmds = s.cmds ∧ t.seq = s.seq := by
  induction levels generalizing s with
  | nil => exact ⟨s, rfl, hinv, ha, rfl, rfl⟩
  | cons v levels ih =>
    obtain ⟨u, hstep, hu, hagenda, hcmds, hseq, -⟩ := step_edge_keeps hinv ha
    obtain ⟨t, hrun, ht, hrest, hcmds', hseq'⟩ := ih hu hagenda
    exact ⟨t, (runFor_succ _ hstep).trans hrun, ht, hrest, hcmds'.trans hcmds, hseq'.trans hseq⟩

/-- A tick of the reset hold. -/
theorem step_tick_of_resetHold {s : State} {n : Nat} {rest : List Turn} (hr : s.IndicesInRange)
    (hq : s.seq = .resetHold) (hcnt : s.holdCnt = n + 1) (ha : s.agenda = .tick :: rest) :
    ∃ t, step s = .next t ∧ t.agenda = rest ∧ t.cmds = s.cmds ∧ t.seq = .resetHold ∧ t.holdCnt = n := by
  have hleft : s.TicksLeft 1 := State.ticksLeft_of_holds (.inr (.inr hq)) (by omega)
  have hrun : runFor 1 s = .next (s.ticked 1 rest) := runFor_ticks hr hleft ha
  obtain ⟨u, hstep, hu⟩ := runFor_succ_next hrun
  cases hu
  refine ⟨_, hstep, rfl, rfl, hq, ?_⟩
  have hholds : s.seq.holds = true := (Sequencer.holds_iff _).2 (.inr (.inr hq))
  exact (if_pos hholds).trans (by omega)

theorem ticksIn_tick (turns : List Turn) : ticksIn (.tick :: turns) = ticksIn turns + 1 := by
  simp [ticksIn]

theorem ticksIn_edge (v : Bool) (turns : List Turn) : ticksIn (.edge v :: turns) = ticksIn turns := by
  simp [ticksIn]

/-- The reset hold, with edges between its ticks. -/
theorem runFor_resetHold {during : List Turn} {s : State} {rest : List Turn} (hinv : s.Inv) (hq : s.seq = .resetHold)
    (hin : ∀ x ∈ during, x.inHold = true) (hcnt : s.holdCnt = ticksIn during) (ha : s.agenda = during ++ rest) :
    ∃ t, runFor during.length s = .next t ∧ t.Inv ∧ t.agenda = rest ∧ t.cmds = s.cmds ∧ t.seq = .resetHold ∧
      t.holdCnt = 0 := by
  induction during generalizing s with
  | nil => exact ⟨s, rfl, hinv, ha, rfl, hq, hcnt⟩
  | cons x xs ih =>
    have hstep : ∃ u, step s = .next u ∧ u.Inv ∧ u.agenda = xs ++ rest ∧ u.cmds = s.cmds ∧ u.seq = .resetHold ∧
        u.holdCnt = ticksIn xs := by
      cases x with
      | edge v =>
        obtain ⟨u, hstep, hu, hagenda, hcmds, hseq, hcnt'⟩ := step_edge_keeps hinv ha
        exact ⟨u, hstep, hu, hagenda, hcmds, hseq.trans hq, hcnt'.trans (hcnt.trans (ticksIn_edge v xs))⟩
      | tick =>
        obtain ⟨u, hstep, hu⟩ := step_tick_of_resetHold hinv.2.1 hq (hcnt.trans (ticksIn_tick xs)) ha
        exact ⟨u, hstep, everyStepKeepsTheInvariants s u hinv hstep, hu⟩
      | _ => cases hin _ List.mem_cons_self
    obtain ⟨u, hstep, hu, hagenda, hcmds, hseq, hcnt'⟩ := hstep
    obtain ⟨t, hrun, ht, hrest, hcmds', hend⟩ :=
      ih hu hseq (fun y hy => hin y (List.mem_cons_of_mem x hy)) hcnt' hagenda
    exact ⟨t, (runFor_succ _ hstep).trans hrun, ht, hrest, hcmds'.trans hcmds, hend⟩

/-- Settles O46: RESET, its hold, RESET_DONE and the edges after it keep the invariants, so that none of them stops the
block; BEGIN then finds SEQ = READY and writes every value of the statement. -/
theorem resetThenBeginIsClean : Obligations.ResetThenBeginIsClean := by
  intro s during after rest hinv hq hin hticks ha hc
  have hreset := (step_host_of_ready hinv.2.1 ha hc hq (i := .hostReset 0) rfl).trans (exec_hostReset_of_ready 0 hq)
  obtain ⟨u, hrun, hu, hagenda, hcmds, hseq, h0⟩ :=
    runFor_resetHold (everyStepKeepsTheInvariants _ _ hinv hreset) rfl hin hticks.symm rfl
  have hdone := step_urgent hu.2.1 hagenda (u.urgentEnabled_iff.2 (.inl ⟨.inr (.inr hseq), h0⟩))
  rw [State.seqInstr_of_resetHold hseq h0] at hdone
  have hdone := hdone.trans (exec_resetDone_of_over hseq h0)
  obtain ⟨w, hrun', hw, hagenda', hcmds', hseq'⟩ :=
    runFor_edges_keeps (levels := after) (everyStepKeepsTheInvariants _ _ hu hdone) rfl
  have hbegin := (step_host_of_ready hw.2.1 hagenda' (hcmds'.trans hcmds) hseq' (i := .hostBegin 0) rfl).trans
    (exec_hostBegin_of_ready 0 hseq')
  have hlen : during.length + after.length + 3 = during.length + (after.length + 1 + 1) + 1 := by omega
  rw [hlen]
  exact ⟨_, (runFor_succ _ hreset).trans ((runFor_add _ hrun).trans ((runFor_succ _ hdone).trans
    ((runFor_add 1 hrun').trans (runFor_succ 0 hbegin)))), rfl, rfl, rfl, rfl, rfl, rfl, rfl, rfl, hseq', rfl⟩

end Sys2Proof.Machine
end

section
/-! PROOFS. RX_STOP with a valid stop bit and a slot free (R107, R141). -/

namespace Sys2Proof.Machine

/-- Settles O20: the valid stop bit leads to PUSH, which finds a slot free and writes it. -/
theorem rxStopStoresTheByte : Obligations.RxStopStoresTheByte := by
  intro v s hi hc hp hn hd hr hfree
  rw [← State.sampled_eq] at hd
  refine ⟨setBit s.rxShift 10 true, _, fun _ hj => getLsbD_setBit _ (by omega) hj _,
    (exec_rxStop_of_valid hi hc hp hn hd hr).trans (congrArg Host.Outcome.next (State.push_of_free _ _ hfree)), rfl,
    ?_, ?_, fun a hne => ⟨?_, ?_⟩⟩
  · exact (s.bufByte_bufWrite s.tail s.tail s.rxPe (frameByte s.rxShift)).trans (if_pos rfl)
  · exact (s.bufFlag_bufWrite s.tail s.tail s.rxPe (frameByte s.rxShift)).trans (if_pos rfl)
  · exact (s.bufByte_bufWrite s.tail a s.rxPe (frameByte s.rxShift)).trans (if_neg hne)
  · exact (s.bufFlag_bufWrite s.tail a s.rxPe (frameByte s.rxShift)).trans (if_neg hne)

end Sys2Proof.Machine
end
